-- ==== Sys2Proof/Word.lean ====
section
/-!
DEFINITION. The word types of PFC-SEQ (00_scope.md R8): u8, u16, u32 and the 64-bit request and response words.
All arithmetic on them is modulo 2^N, as R8 asks.
-/

namespace Sys2Proof

/-- `u8` of R8: the unit of every wire, transport and buffer access (R59). -/
abbrev Byte := BitVec 8

/-- `u16` of R8: the frame length field, and the read lengths and offsets of R6. -/
abbrev U16 := BitVec 16

/-- `u32` of R8: the N field, VALUE, BCNT, the device ID and status. -/
abbrev U32 := BitVec 32

/-- A request word (R70) or a response word (R72). -/
abbrev U64 := BitVec 64

end Sys2Proof
end

