-- ==== Sys2Proof/Syntax.lean ====
section
/-!
DEFINITION. The requests of PFC-SEQ: one constructor per row of opcode_table.json (30_encoding.md R74), with the operand
fields of the request word that its row gives it (R71). The data list D of a request is not part of the word: it lies
on the data port (20_memory.md R52), State.dataIn.
-/

namespace Sys2Proof

/-- The 17 requests (R74). -/
inductive Instr where
  /-- INIT_CONFIG (R101); board = W[15:8]. -/
  | initConfig (board : Byte)
  /-- PROG_PULSE (R102). -/
  | progPulse
  /-- READ_ID (R103). -/
  | readId
  /-- READ_STATUS (R104). -/
  | readStatus
  /-- POLL_BUSY (R105). -/
  | pollBusy
  /-- ENTER_ISC (R131). -/
  | enterIsc
  /-- EXIT_ISC (R132). -/
  | exitIsc
  /-- BURST_BEGIN (R150). -/
  | burstBegin
  /-- BURST_DATA (R151); n = W[63:32]. -/
  | burstData (n : U32)
  /-- BURST_END (R153). -/
  | burstEnd
  /-- SESSION_OPEN (R170). -/
  | sessionOpen
  /-- SESSION_CLOSE (R172). -/
  | sessionClose
  /-- SESSION_ABORT (R173). -/
  | sessionAbort
  /-- PROGRAM_DEVICE (R174); n = W[63:32]. -/
  | programDevice (n : U32)
  /-- FRAME_TX (R202); n = W[63:32]. -/
  | frameTx (n : U32)
  /-- FRAME_RX (R203); maxSize = W[63:32]. -/
  | frameRx (maxSize : U32)
  /-- CKSUM (R201); seed = W[15:8], n = W[63:32]. -/
  | cksum (seed : Byte) (n : U32)
  deriving DecidableEq, Repr

/-- How many bytes the request's data list must hold: N for the four requests that take data, none for the others
(R77, R78). -/
def Instr.dataLength : Instr → Nat
  | .initConfig _ => 0
  | .progPulse => 0
  | .readId => 0
  | .readStatus => 0
  | .pollBusy => 0
  | .enterIsc => 0
  | .exitIsc => 0
  | .burstBegin => 0
  | .burstData n => n.toNat
  | .burstEnd => 0
  | .sessionOpen => 0
  | .sessionClose => 0
  | .sessionAbort => 0
  | .programDevice n => n.toNat
  | .frameTx n => n.toNat
  | .frameRx _ => 0
  | .cksum _ n => n.toNat

end Sys2Proof
end

