-- ==== Sys2Proof/Decode.lean ====
section
/-!
DEFINITION. The request word: its fields (30_encoding.md R70, R71), the opcode map (R74), the decoder with the
rejections of R75 and R76 by name, and the encoder. The word is one 64-bit unit, so there is no byte order to settle.
-/

namespace Sys2Proof

/-- OP = W[7:0] (R70). -/
def opField (w : U64) : Byte := w.extractLsb' 0 8

/-- A8 = W[15:8] (R70). -/
def a8Field (w : U64) : Byte := w.extractLsb' 8 8

/-- RSVD = W[31:16] (R70). -/
def rsvdField (w : U64) : U16 := w.extractLsb' 16 16

/-- N = W[63:32] (R70). -/
def nField (w : U64) : U32 := w.extractLsb' 32 32

/-- Why a request word is illegal: each is answered with E_ILLEGAL and no other effect (R75, R76). -/
inductive DecodeError where
  /-- The OP is not in the table of R74 (R75). -/
  | unassignedOp
  /-- RSVD ≠ 0 (R76). -/
  | rsvdNotZero
  /-- A8 ≠ 0 for an OP that does not use it (R76). -/
  | a8NotZero
  /-- N ≠ 0 for an OP that does not use it (R76). -/
  | nNotZero
  deriving DecidableEq, Repr

/-- One row of the opcode map (R74): the OP value, whether the A8 and N columns hold an operand, and the request. -/
structure OpRow where
  code : Byte
  usesA8 : Bool
  usesN : Bool
  build : Byte → U32 → Instr

/-- The opcode map (R74), row by row. -/
def opTable : List OpRow :=
  [ ⟨0x01, true, false, fun a8 _ => .initConfig a8⟩,
    ⟨0x02, false, false, fun _ _ => .progPulse⟩,
    ⟨0x10, false, false, fun _ _ => .readId⟩,
    ⟨0x11, false, false, fun _ _ => .readStatus⟩,
    ⟨0x12, false, false, fun _ _ => .pollBusy⟩,
    ⟨0x20, false, false, fun _ _ => .enterIsc⟩,
    ⟨0x21, false, false, fun _ _ => .exitIsc⟩,
    ⟨0x30, false, false, fun _ _ => .burstBegin⟩,
    ⟨0x31, false, true, fun _ n => .burstData n⟩,
    ⟨0x32, false, false, fun _ _ => .burstEnd⟩,
    ⟨0x40, false, false, fun _ _ => .sessionOpen⟩,
    ⟨0x41, false, false, fun _ _ => .sessionClose⟩,
    ⟨0x42, false, false, fun _ _ => .sessionAbort⟩,
    ⟨0x43, false, true, fun _ n => .programDevice n⟩,
    ⟨0x50, false, true, fun _ n => .frameTx n⟩,
    ⟨0x51, false, true, fun _ n => .frameRx n⟩,
    ⟨0x52, true, true, fun a8 n => .cksum a8 n⟩ ]

/-- The row of an OP value, where it is assigned. -/
def opRow (op : Byte) : Option OpRow := opTable.find? fun r => r.code == op

/-- The decoder, total on request words: an unassigned OP first, then the reserved fields (the order of
60_exceptions.md R232; all four answer the same code). -/
def decode (w : U64) : Except DecodeError Instr :=
  match opRow (opField w) with
  | none => .error .unassignedOp
  | some r =>
    if rsvdField w ≠ 0 then .error .rsvdNotZero
    else if r.usesA8 = false ∧ a8Field w ≠ 0 then .error .a8NotZero
    else if r.usesN = false ∧ nField w ≠ 0 then .error .nNotZero
    else .ok (r.build (a8Field w) (nField w))

/-- A request word from its fields: W = N ‖ RSVD ‖ A8 ‖ OP with RSVD = 0 (R70). -/
def requestWord (op a8 : Byte) (n : U32) : U64 := n ++ 0#16 ++ a8 ++ op

/-- The word of a request, from the columns of R74 and the words of R79. -/
def encode : Instr → U64
  | .initConfig board => requestWord 0x01 board 0
  | .progPulse => requestWord 0x02 0 0
  | .readId => requestWord 0x10 0 0
  | .readStatus => requestWord 0x11 0 0
  | .pollBusy => requestWord 0x12 0 0
  | .enterIsc => requestWord 0x20 0 0
  | .exitIsc => requestWord 0x21 0 0
  | .burstBegin => requestWord 0x30 0 0
  | .burstData n => requestWord 0x31 0 n
  | .burstEnd => requestWord 0x32 0 0
  | .sessionOpen => requestWord 0x40 0 0
  | .sessionClose => requestWord 0x41 0 0
  | .sessionAbort => requestWord 0x42 0 0
  | .programDevice n => requestWord 0x43 0 n
  | .frameTx n => requestWord 0x50 0 n
  | .frameRx maxSize => requestWord 0x51 0 maxSize
  | .cksum seed n => requestWord 0x52 seed n

/-- The request word whose low `nbits` bits are those of `w` and whose other bits are 0. -/
def tableWord (nbits w : Nat) : U64 := BitVec.ofNat 64 (w % 2 ^ nbits)

/-- The instruction the decoder reads from a word of the opcode table. -/
def decodeTableWord (nbits w : Nat) : Option Instr := (decode (tableWord nbits w)).toOption

end Sys2Proof
end

