-- ==== Sys2Proof/Config.lean ====
section
/-!
DEFINITION. What an instantiation of PFC-SEQ fixes: the parameters of 00_scope.md R6, the reference instantiation RI of
its last column, and the free values of the model (the MISO bytes an FPGA returns, R16, and the bytes of RXBUF that the
spec leaves at any value, 10_state.md R32).
A parameter is no state (10_state.md R38). The model takes them as an argument, as R6 asks: the field `params` of State
carries them and no step changes it (log 1).
-/

namespace Sys2Proof

/-- The Device Configuration (10_state.md R22): seven u8 fields. -/
structure DeviceConfig where
  /-- Board identity. -/
  board : Byte
  /-- GPIO number of chip-select. -/
  pinCS : Byte
  /-- GPIO number of the SPI clock. -/
  pinCLK : Byte
  /-- GPIO number of MOSI. -/
  pinMOSI : Byte
  /-- GPIO number of MISO. -/
  pinMISO : Byte
  /-- GPIO number of the program-enable pin. -/
  pinPROG : Byte
  /-- SPI bus selector. -/
  spiBus : Byte
  deriving DecidableEq, Repr

/-- One register read of R81: its command byte, the length of its read phase and the offset of the value in it. -/
structure ReadCmd where
  /-- CMD_* of R6. -/
  cmd : Byte
  /-- RDLEN_* of R6. -/
  len : U16
  /-- RDOFF_* of R6. -/
  off : U16
  deriving DecidableEq, Repr

/-- The settle delays of R6, named: a DELAY event carries the name, never a length (R11, R276). -/
inductive Settle where
  | initSettle
  | burstSettle
  | progLow
  | progSettle
  deriving DecidableEq, Repr

/-- The timeout class of a transport read: `tc ∈ {ZERO, LEN, BYTE}` (R11, R17). -/
inductive Timeout where
  | zero
  | len
  | byte
  deriving DecidableEq, Repr

/-- F_SPI and the durations of R6, in any unit. No rule depends on one (R276); they are here because R6 makes them
parameters, and no meaning reads them (log 12). -/
structure Timing where
  fSpi : Nat
  tInitSettle : Nat
  tBurstSettle : Nat
  tProgLow : Nat
  tProgSettle : Nat
  tLen : Nat
  tByte : Nat
  deriving DecidableEq, Repr

/-- How long a DELAY event lasts. -/
def Timing.settle (t : Timing) : Settle → Nat
  | .initSettle => t.tInitSettle
  | .burstSettle => t.tBurstSettle
  | .progLow => t.tProgLow
  | .progSettle => t.tProgSettle

/-- How long a transport read waits at most: not at all for ZERO (R17). -/
def Timing.timeout (t : Timing) : Timeout → Nat
  | .zero => 0
  | .len => t.tLen
  | .byte => t.tByte

/-- SPI_MODE of R6: clock polarity and phase. -/
structure SpiMode where
  cpol : Bool
  cpha : Bool
  deriving DecidableEq, Repr

/-- SPI_BIT_ORDER of R6. -/
inductive BitOrder where
  | msbFirst
  | lsbFirst
  deriving DecidableEq, Repr

/-- PIN_IDLE_LEVEL of R6: the electrical level of each pin of PFC-SEQ while INIT_CONFIG has not driven it (R28);
true is high. One level a pin: the spec does not say they agree (log 16). -/
structure PinIdle where
  cs : Bool
  clk : Bool
  mosi : Bool
  prog : Bool
  deriving DecidableEq, Repr

/-- The parameters PFC-SEQ is defined over (R6). CKSUM_W, LEN_W and REG_W are fixed by the source and stand in the
types. -/
structure Params where
  /-- FRAME_MAGIC. -/
  frameMagic : Byte
  /-- CMD_ID, RDLEN_ID, RDOFF_ID. -/
  readId : ReadCmd
  /-- CMD_STATUS, RDLEN_ST, RDOFF_ST. -/
  readStatus : ReadCmd
  /-- CMD_BUSY, RDLEN_BUSY, RDOFF_BUSY. -/
  readBusy : ReadCmd
  /-- TXSEQ_ISC_EN. -/
  txIscEn : List Byte
  /-- TXSEQ_ISC_DIS. -/
  txIscDis : List Byte
  /-- TXSEQ_BURST. -/
  txBurst : List Byte
  /-- FILL: the MOSI byte of a read phase. -/
  fill : Byte
  /-- BUSY_MASK. -/
  busyMask : Byte
  /-- SUPPORTED_IDS, as the list of its members. -/
  supportedIds : List U32
  /-- BOARD_TABLE, as (board identity, Device Configuration) pairs; the first pair of an identity counts (log 20). -/
  boardTable : List (Byte × DeviceConfig)
  /-- RX_BUF_SIZE. -/
  rxBufSize : U32
  /-- CS_ACTIVE_LOW. -/
  csActiveLow : Bool
  /-- SPI_MODE. -/
  spiMode : SpiMode
  /-- SPI_BIT_ORDER. -/
  bitOrder : BitOrder
  /-- PIN_IDLE_LEVEL. -/
  pinIdle : PinIdle
  /-- F_SPI and the T_* durations. -/
  timing : Timing
  deriving DecidableEq, Repr

/-- BOARD_TABLE(board), where it is defined (R6, R101). -/
def Params.board (p : Params) (b : Byte) : Option DeviceConfig :=
  (p.boardTable.find? fun e => e.1 == b).map (·.2)

/-- The reference instantiation RI of R6 (D45): the spec's own choice for its test vectors, not normative.
DESIGN CHOICE, unsafe (log 1): the parameters that State.reset carries. CS_ACTIVE_LOW, SPI_MODE and SPI_BIT_ORDER are
the decided values of D12 and D13 (log 18, 19); PIN_IDLE_LEVEL and the durations are "not used" by RI and stand as false and 0. -/
def Params.reference : Params where
  frameMagic := 0xA5
  readId := { cmd := 0xE0, len := 7, off := 3 }
  readStatus := { cmd := 0x3C, len := 7, off := 3 }
  readBusy := { cmd := 0xF0, len := 4, off := 3 }
  txIscEn := [0xC6, 0x00, 0x00, 0x00]
  txIscDis := [0x26, 0x00, 0x00, 0x00]
  txBurst := [0x7A, 0x00, 0x00, 0x00]
  fill := 0x00
  busyMask := 0xFF
  supportedIds := [0x41111043]
  boardTable :=
    [(0x00, { board := 0x00, pinCS := 0x01, pinCLK := 0x02, pinMOSI := 0x03, pinMISO := 0x04, pinPROG := 0x05,
              spiBus := 0x00 })]
  rxBufSize := 64
  csActiveLow := true
  spiMode := { cpol := false, cpha := false }
  bitOrder := .msbFirst
  pinIdle := { cs := false, clk := false, mosi := false, prog := false }
  timing := { fSpi := 0, tInitSettle := 0, tBurstSettle := 0, tProgLow := 0, tProgSettle := 0, tLen := 0, tByte := 0 }

/-- A free value: the n-th MISO byte that State.miso does not list (R16, U1). It has no body, so nothing
proved about the model can depend on what an FPGA returns (log 3). -/
opaque Config.freeMiso : Nat → Byte

/-- A free value: the byte of RXBUF at an index while the spec leaves it at any value, after the n-th event that does so
(10_state.md R32, 44_framer.md R206, U10). It has no body (log 7). -/
opaque Config.freeRxByte : Nat → Nat → Byte

end Sys2Proof
end

