-- ==== Sys2Proof/Machine/State.lean ====
section
/-!
DEFINITION. The state of PFC-SEQ (10_state.md R20-R37) as plain data, the outside world's pending moves
(00_scope.md R13), the controller's log, and the state after reset (R37).
PFC-SEQ has no general registers (R20) and no program counter (R21): the request index `reqIndex` stands for it.
-/

namespace Sys2Proof.Machine

/-- SEQ, the sequencer state (R24). -/
inductive SeqState where
  | idle
  | iscEnabled
  | burstOpen
  | burstClosed
  deriving DecidableEq, Repr

/-- The stored bits of FLAGS (R30). Bit 3 is INIT's mirror and bits 7:4 read as 0: `flagsWord` computes them (log 11). -/
structure Flags where
  /-- Bit 0, sticky. -/
  seqErr : Bool
  /-- Bit 1, sticky. -/
  stray : Bool
  /-- Bit 2: the most recent busy evaluation (R31). -/
  busy : Bool
  deriving DecidableEq, Repr

/-- The events of the wire primitives (R11, R33). -/
inductive Event where
  /-- CS(a): the logical chip-select level; true = asserted. -/
  | cs (asserted : Bool)
  /-- XFER(cs, mosi, miso). -/
  | xfer (cs : Bool) (mosi miso : Byte)
  /-- PROG(l): the program-enable pin; true = high = normal run. -/
  | prog (high : Bool)
  /-- SPIINIT. -/
  | spiInit
  /-- DELAY(t). -/
  | delay (t : Settle)
  /-- TX(b), the event of TWrite in R11; it is no event of the SPI and GPIO record of R33 (log 8). -/
  | tx (b : Byte)
  deriving DecidableEq, Repr

/-- What a coming transport read will find, in order (R17): the oldest unconsumed byte, in time, or no byte within the
timeout (`late`; the `‖pause‖` of the test vectors). The draw of R17 is part of the stream (log 4). -/
inductive Arrival where
  | byte (b : Byte)
  | late
  deriving DecidableEq, Repr

/-- RXBUF: the bytes written since reset, by index (R32, 20_memory.md R51). -/
abbrev Memory := List Host.Cell

/-- The canonical form of a memory: indices strictly rising, one entry an index. An unlisted byte reads as a free value,
which no byte can be compared with (log 7), so every byte written stays listed. -/
abbrev Memory.wf (m : Memory) : Prop := m.Pairwise fun x y => x.1 < y.1

/-- The response codes (60_exceptions.md R230). -/
inductive Code where
  | ok
  | eBusy
  | eId
  | eSeq
  | eNoInit
  | eIllegal
  | eArg
  | noFrame
  deriving DecidableEq, Repr

/-- A response: the 64-bit word of R72 and the output list Dout (R52). -/
structure Response where
  word : U64
  dout : List Byte
  deriving DecidableEq, Repr

/-- What the controller sees of PFC-SEQ: one response a request (R72), and a RESET event at each reset with the wire trace
that ended there (R33, R260, R261). -/
inductive LogEntry where
  | response (r : Response)
  | reset (oldTrace : List Event)
  deriving DecidableEq, Repr

/-- A move of the outside world (R13, R248, R260, R261). -/
inductive Input where
  /-- The controller issues the request (W, D) (R70). -/
  | request (word : U64) (data : List Byte)
  /-- The host appends to the transport's input stream (R248). -/
  | hostSends (arrivals : List Arrival)
  /-- A system reset between two requests (R260); TIN holds any contents afterwards (R34), here `tin`. -/
  | systemReset (tin : List Arrival)
  /-- A system reset inside the request (W, D), after its first `events` events (R261). -/
  | resetDuring (word : U64) (data : List Byte) (events : Nat) (tin : List Arrival)
  deriving DecidableEq, Repr

/-- The state of the machine. The first group is the spec's; the second is the model's own (see INVENTORY.md). -/
structure State where
  /-- CFG (R22). -/
  cfg : DeviceConfig
  /-- INIT (R23). -/
  init : Bool
  /-- SEQ (R24). -/
  seq : SeqState
  /-- BCNT (R26). -/
  bcnt : U32
  /-- CSA (R27); true = asserted. -/
  csa : Bool
  /-- PINDRV (R28). -/
  pindrv : Bool
  /-- PROGN (R29); true = high. -/
  progn : Bool
  /-- FLAGS bits 2:0 (R30). -/
  flags : Flags
  /-- RXBUF (R32): the bytes that FRAME_RX has left in it (R206). -/
  rxbuf : Memory
  /-- The events since reset, oldest first (R33). -/
  trace : List Event
  /-- TIN (R34), oldest first. -/
  tin : List Arrival
  /-- TOUT (R34), oldest first. -/
  tout : List Byte
  /-- k, the request index (R21). -/
  reqIndex : Nat
  /-- D, the data list of the request being executed (R52); empty between requests (log 14). -/
  dataIn : List Byte
  /-- The parameters of R6 (log 1). -/
  params : Params
  /-- The MISO bytes the FPGA returns next, a free draw (R16, log 3). -/
  miso : List Byte
  /-- How many MISO bytes were taken from Config.freeMiso (log 3). -/
  misoCount : Nat
  /-- How many bytes of RXBUF, from index 0 on, have the value that `rxbuf` lists; every other byte, and after a reset or a
  NOFRAME every byte, has any value (R32, R206, log 7). -/
  rxKnown : Nat
  /-- How many events have left RXBUF at any value: which free values Config.freeRxByte gives its bytes (log 7). -/
  rxFresh : Nat
  /-- What the outside world does next, oldest first (log 10). -/
  inputs : List Input
  /-- The controller's log, oldest first (log 9). -/
  log : List LogEntry
  deriving DecidableEq, Repr

/-- Why the machine would stop. PFC-SEQ has no traps (60_exceptions.md R236), and no meaning reaches this. -/
inductive Fault where
  /-- Raised by FRAME_RX where `rxWrite` or `rxRead` meets an RXBUF index that does not exist, i ≥ RX_BUF_SIZE; R51 says none
  is ever formed. Safe: the machine stops. -/
  | rxIndexOutOfRange
  deriving DecidableEq, Repr

/-- Why a step has no meaning. -/
inductive Refusal where
  /-- Raised by an arm of `exec` whose instruction has no meaning yet. Safe: nothing can be proved of it. -/
  | notModelled (mnemonic : String)
  /-- Raised by `accept` (every step) when the parameters break R7: "A model must refuse an instantiation that breaks one
  of these constraints". Safe: nothing can be proved of such an instantiation. -/
  | illFormedParameters
  deriving DecidableEq, Repr

/-- CFG before INIT_CONFIG. DESIGN CHOICE, unsafe (log 6): R22 leaves it unspecified and nothing reads it. -/
def DeviceConfig.atReset : DeviceConfig :=
  { board := 0, pinCS := 0, pinCLK := 0, pinMOSI := 0, pinMISO := 0, pinPROG := 0, spiBus := 0 }

/-- The state after reset (R37) of the instantiation `p`, with nothing pending outside: the transport streams, the MISO
draws, the free values of RXBUF, the inputs and the log are no reset values of the spec (log 3, 5, 7, 9, 10). -/
def State.resetWith (p : Params) : State where
  cfg := DeviceConfig.atReset
  init := false
  seq := .idle
  bcnt := 0
  csa := false
  pindrv := false
  progn := true
  flags := { seqErr := false, stray := false, busy := false }
  rxbuf := []
  trace := []
  tin := []
  tout := []
  reqIndex := 0
  dataIn := []
  params := p
  miso := []
  misoCount := 0
  rxKnown := 0
  rxFresh := 0
  inputs := []
  log := []

/-- The state after reset under the reference instantiation (log 1). -/
def State.reset : State := State.resetWith Params.reference

end Sys2Proof.Machine
end

