-- ==== Sys2Proof/Machine/Flags.lean ====
section
/-!
DEFINITION. FLAGS (10_state.md R30, R31): its word, and the three places it is written. No request writes it directly,
and only a reset clears SEQERR and STRAY.
-/

namespace Sys2Proof.Machine

/-- FLAGS as a word: bit 0 SEQERR, 1 STRAY, 2 BUSY, 3 INIT (the mirror of S.INIT), 7:4 read as 0 (R30). -/
def flagsWord (s : State) : Byte :=
  0#4 ++ BitVec.ofBool s.init ++ BitVec.ofBool s.flags.busy ++ BitVec.ofBool s.flags.stray
    ++ BitVec.ofBool s.flags.seqErr

/-- FLAGS.SEQERR <- 1 (60_exceptions.md R233). -/
def setSeqErr (s : State) : State := { s with flags := { s.flags with seqErr := true } }

/-- FLAGS.STRAY <- 1 (42_burst_write.md R152). -/
def setStray (s : State) : State := { s with flags := { s.flags with stray := true } }

/-- FLAGS.BUSY <- b (R31). -/
def setBusy (b : Bool) (s : State) : State := { s with flags := { s.flags with busy := b } }

end Sys2Proof.Machine
end

