-- ==== Sys2Proof/Machine/Operands.lean ====
section
/-!
DEFINITION. The helper functions of 00_scope.md R9 over bytes and byte lists, and the packing of the values the requests
return (30_encoding.md R73).
-/

namespace Sys2Proof.Machine

/-- sum8(seed, D): the additive checksum continued from `seed` (R9, 44_framer.md R200). -/
def sum8 (seed : Byte) (d : List Byte) : Byte := d.foldl (· + ·) seed

/-- cksum(D) = sum8(0x00, D) (R9). -/
def cksum (d : List Byte) : Byte := sum8 0x00 d

/-- r[i], for an index inside the captured read phase. R7 keeps every index used inside it (log 2). -/
def byteAt (r : List Byte) (i : Nat) : Byte := r.getD i 0

/-- be32(r, off): r[off] in bits 31:24 (R9, 20_memory.md R56). -/
def be32 (r : List Byte) (off : Nat) : U32 :=
  byteAt r off ++ byteAt r (off + 1) ++ byteAt r (off + 2) ++ byteAt r (off + 3)

/-- le16(lo, hi): hi in bits 15:8 (R9, 20_memory.md R55). -/
def le16 (lo hi : Byte) : U16 := hi ++ lo

/-- isBusy(b) = (b AND BUSY_MASK) ≠ 0 (R9). -/
def isBusy (p : Params) (b : Byte) : Bool := (b &&& p.busyMask) != 0

/-- zext_32 of a byte. -/
def zext32 (b : Byte) : U32 := b.setWidth 32

/-- VALUE of FRAME_TX and FRAME_RX (R73): bits 15:0 the payload length, 23:16 the checksum byte, 31:24 zero. -/
def frameValue (checksum : Byte) (payloadLength : U16) : U32 := 0#8 ++ checksum ++ payloadLength

/-- The bits of a byte in the order they are shifted (20_memory.md R57). -/
def wireBits (p : Params) (b : Byte) : List Bool :=
  match p.bitOrder with
  | .msbFirst => (List.range 8).map fun i => b.getLsbD (7 - i)
  | .lsbFirst => (List.range 8).map fun i => b.getLsbD i

/-- The bytes of a frame (30_encoding.md R83): magic, length low, length high, payload, checksum, with
L = |payload| + 1. -/
def frameBytes (magic : Byte) (payload : List Byte) : List Byte :=
  let len : U16 := BitVec.ofNat 16 (payload.length + 1)
  [magic, len.extractLsb' 0 8, len.extractLsb' 8 8] ++ payload ++ [cksum payload]

end Sys2Proof.Machine
end

