-- ==== Sys2Proof/WellFormed.lean ====
section
/-!
DEFINITION. What must hold of data that its type does not say: the parameter constraints of 00_scope.md R6 and R7, and
the agreement of a request word with its data list (30_encoding.md R77). The fields of a decoded request word are
exactly as wide as R70 makes them, so an Instr by itself has no ill-formed value.
-/

namespace Sys2Proof

/-- RDOFF + width ≤ RDLEN: the value bytes lie inside the captured read phase (R6, R7). -/
def ReadCmd.wf (c : ReadCmd) (width : Nat) : Bool :=
  decide (c.off.toNat + width ≤ c.len.toNat)

/-- The constraints on the parameters, one by one as R7 and the table of R6 list them. -/
def Params.wf (p : Params) : Bool :=
  p.readId.wf 4 && p.readStatus.wf 4 && p.readBusy.wf 1
    && !p.txIscEn.isEmpty && !p.txIscDis.isEmpty && !p.txBurst.isEmpty
    && p.busyMask != 0
    && !p.boardTable.isEmpty
    && decide (1 ≤ p.rxBufSize.toNat) && decide (p.rxBufSize.toNat ≤ 65535)

/-- The data list agrees with the request word (R77). A request that breaks this is rejected with E_ARG. -/
def Instr.agrees (i : Instr) (data : List Byte) : Bool :=
  data.length == i.dataLength

end Sys2Proof
end

