-- ==== Sys2Proof/Machine/Ops.lean ====
section
/-!
DEFINITION. The shared operations of the requests: the wire primitives (00_scope.md R11), the receive buffer
(20_memory.md R51), responding and rejecting (30_encoding.md R72, 60_exceptions.md R232-R234), the SPI procedures
(R100, R105, R130, R150-R153) and the reset event (70_reset_and_hazards.md R260).
PFC-SEQ has no exception entry and no return from one (60_exceptions.md R236, R237): a failure is a response, and
`respond` is the one operation that ends a request.
-/

namespace Sys2Proof.Machine

/-! ## Wire primitives (R11) -/

/-- Appends one event to the trace (R11, R33). -/
def emit (e : Event) (s : State) : State := { s with trace := s.trace ++ [e] }

/-- CsSet(a). -/
def csSet (a : Bool) (s : State) : State := emit (.cs a) { s with csa := a }

/-- ProgSet(l). -/
def progSet (l : Bool) (s : State) : State := emit (.prog l) { s with progn := l }

/-- SpiInit(). -/
def spiInit (s : State) : State := emit .spiInit s

/-- Delay(t): no time passes in the model (R241). -/
def delay (t : Settle) (s : State) : State := emit (.delay t) s

/-- The next MISO byte: a free draw (R16). -/
def nextMiso (s : State) : Byte :=
  match s.miso with
  | b :: _ => b
  | [] => Config.freeMiso s.misoCount

/-- The draw is used up: the next one is another. -/
def takeMiso (s : State) : State :=
  match s.miso with
  | _ :: rest => { s with miso := rest }
  | [] => { s with misoCount := s.misoCount + 1 }

/-- SpiXfer(m): shifts m out on MOSI at the current chip-select level and the drawn byte in from MISO. -/
def spiXfer (m : Byte) (s : State) : Byte × State :=
  (nextMiso s, emit (.xfer s.csa m (nextMiso s)) (takeMiso s))

/-- SpiXfer for each byte of a list, in order: the bytes received, and the state after. -/
def spiXfers : List Byte → State → List Byte × State
  | [], s => ([], s)
  | m :: ms, s =>
    let (r, s1) := spiXfer m s
    let (rs, s2) := spiXfers ms s1
    (r :: rs, s2)

/-- TRead(tc) (R17): the oldest unconsumed byte, removed, or `none` for TIMEOUT, which removes no byte. Whether a byte
arrives in time is a draw, whatever the timeout class; an empty stream always times out. -/
def tread (_tc : Timeout) (s : State) : Option Byte × State :=
  match s.tin with
  | [] => (none, s)
  | .late :: rest => (none, { s with tin := rest })
  | .byte b :: rest => (some b, { s with tin := rest })

/-- TWrite(b): unbuffered and infallible (R15, R54). -/
def twrite (b : Byte) (s : State) : State := emit (.tx b) { s with tout := s.tout ++ [b] }

/-- TWrite for each byte of a list, in order. -/
def twrites : List Byte → State → State
  | [], s => s
  | b :: bs, s => twrites bs (twrite b s)

/-! ## The trace as the outside sees it -/

/-- Whether an event is one of the SPI and GPIO record of R33. -/
def Event.onWire : Event → Bool
  | .cs _ => true
  | .xfer _ _ _ => true
  | .prog _ => true
  | .spiInit => true
  | .delay _ => true
  | .tx _ => false

/-- The wire trace of R33: the CS, XFER, PROG, SPIINIT and DELAY events, in order. -/
def wireTrace (s : State) : List Event := s.trace.filter Event.onWire

/-- The bytes of the TX events of a trace, in order. -/
def txBytes : List Event → List Byte
  | [] => []
  | .tx b :: es => b :: txBytes es
  | .cs _ :: es => txBytes es
  | .xfer _ _ _ :: es => txBytes es
  | .prog _ :: es => txBytes es
  | .spiInit :: es => txBytes es
  | .delay _ :: es => txBytes es

/-- How many XFER events a trace holds. -/
def xferCount : List Event → Nat
  | [] => 0
  | .xfer _ _ _ :: es => xferCount es + 1
  | .tx _ :: es => xferCount es
  | .cs _ :: es => xferCount es
  | .prog _ :: es => xferCount es
  | .spiInit :: es => xferCount es
  | .delay _ :: es => xferCount es

/-- The electrical level of the chip-select pin (10_state.md R27, R28): high is true. -/
def csPinLevel (s : State) : Bool :=
  if s.pindrv then (if s.params.csActiveLow then !s.csa else s.csa) else s.params.pinIdle.cs

/-- The electrical level of the program-enable pin (10_state.md R28, R29): high is true. -/
def progPinLevel (s : State) : Bool :=
  if s.pindrv then s.progn else s.params.pinIdle.prog

/-- The electrical level of the clock pin between transfers: SPI_MODE's clock polarity (R6, 20_memory.md R57) once it is
driven, its idle level before (10_state.md R28). -/
def clkPinLevel (s : State) : Bool :=
  if s.pindrv then s.params.spiMode.cpol else s.params.pinIdle.clk

/-- The electrical level of the MOSI pin between transfers: its idle level while it is not driven (10_state.md R28).
`none`: the spec gives no level between two transfers once it is driven (log 16). -/
def mosiPinLevel (s : State) : Option Bool :=
  if s.pindrv then none else some s.params.pinIdle.mosi

/-! ## The receive buffer (R32, R51) -/

/-- The byte at an index, where one has been written since reset. -/
def Memory.read : Memory → Nat → Option Byte
  | [], _ => none
  | (b, w) :: m, a => if a = b then some w else Memory.read m a

/-- Writes one byte, keeping the entries in rising order. -/
def Memory.write : Memory → Nat → Byte → Memory
  | [], a, v => [(a, v)]
  | (b, w) :: m, a, v =>
    if a < b then (a, v) :: (b, w) :: m
    else if a = b then (a, v) :: m
    else (b, w) :: Memory.write m a v

/-- MemWrite(i, 1, v) on RXBUF; `none` for an index that does not exist (R51). FRAME_RX writes from index 0 on without a
gap, so the bytes with a known value stay an initial part of RXBUF (log 7). -/
def rxWrite (i : Nat) (v : Byte) (s : State) : Option State :=
  if i < s.params.rxBufSize.toNat then
    some { s with rxbuf := s.rxbuf.write i v, rxKnown := max s.rxKnown (i + 1) }
  else none

/-- The byte RXBUF has at an index: the one last written there, or any value (R32, R206, log 7). -/
def rxByte (i : Nat) (s : State) : Byte :=
  if i < s.rxKnown then (s.rxbuf.read i).getD (Config.freeRxByte s.rxFresh i) else Config.freeRxByte s.rxFresh i

/-- MemRead(i, 1) on RXBUF; `none` for an index that does not exist (R51). -/
def rxRead (i : Nat) (s : State) : Option Byte :=
  if i < s.params.rxBufSize.toNat then some (rxByte i s) else none

/-- RXBUF[i .. i + count - 1], in order; `none` where an index does not exist. -/
def rxReads : Nat → Nat → State → Option (List Byte)
  | 0, _, _ => some []
  | count + 1, i, s =>
    match rxRead i s with
    | none => none
    | some v =>
      match rxReads count (i + 1) s with
      | none => none
      | some vs => some (v :: vs)

/-- RXBUF takes any value, as it does at a NOFRAME (R206, D31, U10): whatever it lists, every byte of it reads as a free
value, and as another one than before. -/
def rxForget (s : State) : State := { s with rxKnown := 0, rxFresh := s.rxFresh + 1 }

/-! ## Responding and rejecting -/

/-- The encoding of CODE (R230). -/
def Code.toByte : Code → Byte
  | .ok => 0x00
  | .eBusy => 0x01
  | .eId => 0x02
  | .eSeq => 0x03
  | .eNoInit => 0x04
  | .eIllegal => 0x05
  | .eArg => 0x06
  | .noFrame => 0x07

/-- The encoding of SEQ (10_state.md R24, 30_encoding.md R86). -/
def SeqState.toBits : SeqState → BitVec 2
  | .idle => 0
  | .iscEnabled => 1
  | .burstOpen => 2
  | .burstClosed => 3

/-- The response word (R72): VALUE ‖ 0 ‖ SEQ ‖ FLAGS ‖ CODE, with FLAGS and SEQ as they are after the request. -/
def responseWord (c : Code) (value : U32) (s : State) : U64 :=
  value ++ 0#14 ++ s.seq.toBits ++ flagsWord s ++ c.toByte

/-- respond(code, value) with Dout (R10, R72): the request ends with its one response, k advances (R21), and the data
port is free again. -/
def respondWith (c : Code) (value : U32) (dout : List Byte) (s : State) : State :=
  { s with
    log := s.log ++ [.response { word := responseWord c value s, dout := dout }]
    reqIndex := s.reqIndex + 1
    dataIn := [] }

/-- respond(code, value) with an empty Dout. -/
def respond (c : Code) (value : U32) (s : State) : State := respondWith c value [] s

/-- reject_seq() (R233). -/
def rejectSeq (s : State) : State := respond .eSeq 0 (setSeqErr s)

/-- A model refuses an instantiation that breaks R7; any other goes on. -/
def accept (s : State) (go : Host.Outcome State Fault Refusal) : Host.Outcome State Fault Refusal :=
  if s.params.wf then go else .refused .illFormedParameters

/-- The two admission classes (R232): `spi` needs INIT. -/
inductive AdmitClass where
  | spi
  | noinit
  deriving DecidableEq, Repr

/-- The admission procedure of R232 past the decoder, in its order: the data length, then INIT. `none` lets the request
run.
The E_ILLEGAL checks of R232 are the decoder's (log 15). -/
def admission (cls : AdmitClass) (dataLength : Nat) (s : State) : Option Code :=
  if s.dataIn.length ≠ dataLength then some .eArg
  else
    match cls with
    | .spi => if s.init then none else some .eNoInit
    | .noinit => none

/-- A request: refused for an ill-formed instantiation, rejected where `admission` rejects it, else its body. -/
def request (cls : AdmitClass) (dataLength : Nat) (body : State → Host.Outcome State Fault Refusal) (s : State) :
    Host.Outcome State Fault Refusal :=
  accept s
    (match admission cls dataLength s with
     | some c => .next (respond c 0 s)
     | none => body s)

/-- The body of a request that always completes. -/
def completes (f : State → State) (s : State) : Host.Outcome State Fault Refusal := .next (f s)

/-- A body that runs only in the states of the sequencer that `legal` admits, else reject_seq() (R233). -/
def inSequence (legal : SeqState → Bool) (f : State → State) (s : State) : State :=
  if legal s.seq then f s else rejectSeq s

/-! ## SPI procedures -/

/-- rdcmd(cmd, len) (R100): the bytes of the read phase and the state after. -/
def rdcmd (c : ReadCmd) (s : State) : List Byte × State :=
  let (_, s1) := spiXfer c.cmd (csSet true s)
  let (r, s2) := spiXfers (List.replicate c.len.toNat s.params.fill) s1
  (r, csSet false s2)

/-- busy_poll() (R105): one read, and FLAGS.BUSY from it. -/
def busyPoll (s : State) : Byte × State :=
  let (r, s1) := rdcmd s.params.readBusy s
  let b := byteAt r s.params.readBusy.off.toNat
  (b, setBusy (isBusy s.params b) s1)

/-- The program-enable pulse of PROG_PULSE and PROGRAM_DEVICE (R102, R174). -/
def progPulse (s : State) : State :=
  delay .progSettle (progSet true (delay .progLow (progSet false s)))

/-- cmdtx(T) (R130): T inside one chip-select bracket, every MISO byte discarded. -/
def cmdtx (t : List Byte) (s : State) : State := csSet false (spiXfers t (csSet true s)).2

/-- isc_enable() (R130). -/
def iscEnable (s : State) : State := { cmdtx s.params.txIscEn s with seq := .iscEnabled }

/-- isc_disable() (R130). -/
def iscDisable (s : State) : State := { cmdtx s.params.txIscDis s with seq := .idle }

/-- burst_begin() (R150): chip-select stays asserted. -/
def burstBegin (s : State) : State :=
  { (spiXfers s.params.txBurst (csSet true s)).2 with bcnt := 0, seq := .burstOpen }

/-- burst_data(D) (R151): BCNT counts modulo 2^32. -/
def burstData (d : List Byte) (s : State) : State :=
  let s1 := (spiXfers d s).2
  { s1 with bcnt := s1.bcnt + 1 }

/-- stray_data(D) (R152): the bytes go out at the chip-select level there is. -/
def strayData (d : List Byte) (s : State) : State := setStray (spiXfers d s).2

/-- burst_end() (R153). -/
def burstEnd (s : State) : State := { delay .burstSettle (csSet false s) with seq := .burstClosed }

/-! ## Reset -/

/-- The reset event (R260): every field takes its value of 10_state.md R37, a new trace starts, k starts at 0, and the
controller's log records RESET with the trace that ended (R33). RXBUF takes any value (R32), another one than before;
TOUT is not reset, TIN is arbitrary afterwards (R34), and the FPGA and the rest of the outside go on. -/
def systemReset (tin : List Arrival) (s : State) : State :=
  { State.resetWith s.params with
    tin := tin
    tout := s.tout
    miso := s.miso
    misoCount := s.misoCount
    rxFresh := s.rxFresh + 1
    inputs := s.inputs
    log := s.log ++ [.reset s.trace] }

/-- Uses up `n` MISO draws. -/
def takeMisos : Nat → State → State
  | 0, s => s
  | n + 1, s => takeMisos n (takeMiso s)

/-- What a request from `s` to `t` has done to the outside world when only its first `n` events have happened (R261, log 13):
these events, their TX bytes and their MISO draws. -/
def partlyDone (n : Nat) (s t : State) : State :=
  let done := (t.trace.drop s.trace.length).take n
  { takeMisos (xferCount done) s with
    trace := s.trace ++ done
    tout := s.tout ++ txBytes done }

end Sys2Proof.Machine
end

