-- ==== Sys2Proof/Machine/Burst.lean ====
section
/-!
DEFINITION. The requests of 42_burst_write.md: BURST_BEGIN, BURST_DATA, BURST_END.
-/

namespace Sys2Proof.Machine

/-- BURST_BEGIN (R150): IscEnabled only. -/
def execBurstBegin (s : State) : Host.Outcome State Fault Refusal :=
  request .spi 0 (completes (inSequence (· == .iscEnabled) fun s => respond .ok 0 (burstBegin s))) s

/-- BURST_DATA (R151): never rejected for sequence; outside BurstOpen the data is stray (R152). -/
def execBurstData (n : U32) (s : State) : Host.Outcome State Fault Refusal :=
  request .spi n.toNat
    (completes fun s =>
      respond .ok n (if s.seq = .burstOpen then burstData s.dataIn s else strayData s.dataIn s))
    s

/-- BURST_END (R153): BurstOpen only; VALUE is BCNT, which is kept. -/
def execBurstEnd (s : State) : Host.Outcome State Fault Refusal :=
  request .spi 0
    (completes (inSequence (· == .burstOpen) fun s =>
      let s1 := burstEnd s
      respond .ok s1.bcnt s1))
    s

end Sys2Proof.Machine
end

