-- ==== Sys2Proof/Machine/ConfigMode.lean ====
section
/-!
DEFINITION. The requests of 41_config_mode.md: ENTER_ISC, EXIT_ISC. Neither polls busy (R131, R132, R133).
-/

namespace Sys2Proof.Machine

/-- ENTER_ISC (R131): Idle only, unguarded (C3). -/
def execEnterIsc (s : State) : Host.Outcome State Fault Refusal :=
  request .spi 0 (completes (inSequence (· == .idle) fun s => respond .ok 0 (iscEnable s))) s

/-- EXIT_ISC (R132): IscEnabled or BurstClosed only. -/
def execExitIsc (s : State) : Host.Outcome State Fault Refusal :=
  request .spi 0
    (completes (inSequence (fun q => q == .iscEnabled || q == .burstClosed) fun s => respond .ok 0 (iscDisable s))) s

end Sys2Proof.Machine
end

