-- ==== Sys2Proof/Machine/Framer.lean ====
section
/-!
DEFINITION. The requests of 44_framer.md: CKSUM, FRAME_TX, FRAME_RX. They are of class noinit and run in every SEQ state.
-/

namespace Sys2Proof.Machine

/-- CKSUM (R201). -/
def execCksum (seed : Byte) (n : U32) (s : State) : Host.Outcome State Fault Refusal :=
  request .noinit n.toNat (completes fun s => respond .ok (zext32 (sum8 seed s.dataIn)) s) s

/-- FRAME_TX (R202): the pseudocode's writes in order. -/
def frameTx (n : U32) (s : State) : State :=
  let len : U16 := n.setWidth 16 + 1
  let c := cksum s.dataIn
  let s1 := twrite s.params.frameMagic s
  let s2 := twrite (len.extractLsb' 8 8) (twrite (len.extractLsb' 0 8) s1)
  let s3 := twrite c (twrites s.dataIn s2)
  respond .ok (frameValue c (len - 1)) s3

/-- FRAME_TX (R202): a payload longer than 65534 bytes is E_ARG, and nothing is emitted. -/
def execFrameTx (n : U32) (s : State) : Host.Outcome State Fault Refusal :=
  request .noinit n.toNat
    (completes fun s => if 65534 < n.toNat then respond .eArg 0 s else frameTx n s) s

/-- The length field of a frame after its magic byte: two bytes, low first (R203, R55), or TIMEOUT. -/
def rxLength (s : State) : Option U16 × State :=
  match tread .len s with
  | (none, s1) => (none, s1)
  | (some lo, s1) =>
    match tread .len s1 with
    | (none, s2) => (none, s2)
    | (some hi, s2) => (some (le16 lo hi), s2)

/-- The head of a frame (R203): the magic byte, polled with the zero timeout and consumed even when it is not the magic,
then the length. `none` is NOFRAME. -/
def rxHead (s : State) : Option U16 × State :=
  match tread .zero s with
  | (none, s1) => (none, s1)
  | (some m, s1) => if m = s1.params.frameMagic then rxLength s1 else (none, s1)

/-- How the body loop of FRAME_RX ends. -/
inductive RxBody where
  /-- Every byte was received and written to RXBUF. -/
  | complete (s : State)
  /-- A read timed out. -/
  | timedOut (s : State)
  /-- An RXBUF index that does not exist; never reached (R51). -/
  | outOfRange
  deriving DecidableEq, Repr

/-- The body loop of FRAME_RX (R203): `count` bytes into RXBUF from index `i`. -/
def rxBody : Nat → Nat → State → RxBody
  | 0, _, s => .complete s
  | count + 1, i, s =>
    match tread .byte s with
    | (none, s1) => .timedOut s1
    | (some v, s1) =>
      match rxWrite i v s1 with
      | none => .outOfRange
      | some s2 => rxBody count (i + 1) s2

/-- NOFRAME, the one failure of FRAME_RX (R204); RXBUF then has any value (R206). -/
def noFrame (s : State) : State := respond .noFrame 0 (rxForget s)

/-- The end of FRAME_RX (R203): RXBUF[0 .. L-2] is the payload, RXBUF[L-1] the checksum to compare. -/
def rxFinish (len : Nat) (s : State) : Host.Outcome State Fault Refusal :=
  match rxReads (len - 1) 0 s, rxRead (len - 1) s with
  | some payload, some k =>
    if cksum payload = k then
      .next (respondWith .ok (frameValue k (BitVec.ofNat 16 (len - 1))) payload s)
    else .next (noFrame s)
  | none, _ => .fault .rxIndexOutOfRange
  | some _, none => .fault .rxIndexOutOfRange

/-- FRAME_RX past its size check (R203, R204). -/
def frameRx (maxSize : U32) (s : State) : Host.Outcome State Fault Refusal :=
  match rxHead s with
  | (none, s1) => .next (noFrame s1)
  | (some len, s1) =>
    if len.toNat = 0 ∨ maxSize.toNat < len.toNat then .next (noFrame s1)
    else
      match rxBody len.toNat 0 s1 with
      | .timedOut s2 => .next (noFrame s2)
      | .outOfRange => .fault .rxIndexOutOfRange
      | .complete s2 => rxFinish len.toNat s2

/-- FRAME_RX (R203): maxSize beyond the receive buffer is E_ARG. -/
def execFrameRx (maxSize : U32) (s : State) : Host.Outcome State Fault Refusal :=
  request .noinit 0
    (fun s =>
      if s.params.rxBufSize.toNat < maxSize.toNat then .next (respond .eArg 0 s) else frameRx maxSize s)
    s

end Sys2Proof.Machine
end

