-- ==== Sys2Proof/Machine/Session.lean ====
section
/-!
DEFINITION. The requests of 43_sessions.md: SESSION_OPEN, SESSION_CLOSE, SESSION_ABORT, PROGRAM_DEVICE.
-/

namespace Sys2Proof.Machine

/-- The response to a final busy byte (R172, R174): E_BUSY or OK with the byte as VALUE. -/
def respondBusy (b : Byte) (s : State) : State :=
  respond (if isBusy s.params b then .eBusy else .ok) (zext32 b) s

/-- SESSION_OPEN (R170): the busy guard, then Idle → IscEnabled → BurstOpen. -/
def execSessionOpen (s : State) : Host.Outcome State Fault Refusal :=
  request .spi 0
    (completes (inSequence (· == .idle) fun s =>
      let (b, s1) := busyPoll s
      if isBusy s1.params b then respond .eBusy (zext32 b) s1
      else respond .ok (zext32 b) (burstBegin (iscEnable s1))))
    s

/-- Closes the burst where one is open (R172, R173). -/
def closeBurst (s : State) : State := if s.seq = .burstOpen then burstEnd s else s

/-- SESSION_CLOSE (R172): not from Idle; close the burst, exit ISC, then the busy check. -/
def execSessionClose (s : State) : Host.Outcome State Fault Refusal :=
  request .spi 0
    (completes (inSequence (· != .idle) fun s =>
      let (b, s1) := busyPoll (iscDisable (closeBurst s))
      respondBusy b s1))
    s

/-- SESSION_ABORT (R173): what is open is closed, without a busy check; a no-op in Idle. -/
def execSessionAbort (s : State) : Host.Outcome State Fault Refusal :=
  request .spi 0
    (completes fun s =>
      let s1 := closeBurst s
      respond .ok 0 (if s1.seq = .iscEnabled ∨ s1.seq = .burstClosed then iscDisable s1 else s1))
    s

/-- The part of PROGRAM_DEVICE after both checks (R174): ISC, one burst of the whole buffer, exit, final poll. -/
def programBurst (d : List Byte) (s : State) : State :=
  let (b, s1) := busyPoll (iscDisable (burstEnd (burstData d (burstBegin (iscEnable s)))))
  respondBusy b s1

/-- PROGRAM_DEVICE (R174): Idle only; pulse, ID check (R175), busy check, then the burst. -/
def execProgramDevice (n : U32) (s : State) : Host.Outcome State Fault Refusal :=
  request .spi n.toNat
    (completes (inSequence (· == .idle) fun s =>
      let (r, s1) := rdcmd s.params.readId (progPulse s)
      let id := be32 r s.params.readId.off.toNat
      if s1.params.supportedIds.contains id then
        let (b, s2) := busyPoll s1
        if isBusy s2.params b then respond .eBusy (zext32 b) s2
        else programBurst s.dataIn s2
      else respond .eId id s1))
    s

end Sys2Proof.Machine
end

