-- ==== Sys2Proof/Machine/Spi.lean ====
section
/-!
DEFINITION. The requests of 40_spi_primitive.md: INIT_CONFIG, PROG_PULSE, READ_ID, READ_STATUS, POLL_BUSY.
-/

namespace Sys2Proof.Machine

/-- The effect of INIT_CONFIG once its board is known (R101). -/
def initConfigWith (cfg : DeviceConfig) (s : State) : State :=
  let s1 := { s with cfg := cfg, pindrv := true }
  let s2 := delay .initSettle (spiInit (csSet false (progSet true s1)))
  respond .ok 0 { s2 with init := true }

/-- INIT_CONFIG (R101): an unknown board is E_ARG before a second call is E_SEQ. -/
def execInitConfig (board : Byte) (s : State) : Host.Outcome State Fault Refusal :=
  request .noinit 0
    (completes fun s =>
      match s.params.board board with
      | none => respond .eArg 0 s
      | some cfg => if s.init then rejectSeq s else initConfigWith cfg s)
    s

/-- PROG_PULSE (R102): Idle only. -/
def execProgPulse (s : State) : Host.Outcome State Fault Refusal :=
  request .spi 0 (completes (inSequence (· == .idle) fun s => respond .ok 0 (progPulse s))) s

/-- A register read that is legal outside BurstOpen (R103, R104): the value is four bytes, most significant first. -/
def readRegister (c : ReadCmd) (s : State) : State :=
  inSequence (· != .burstOpen)
    (fun s =>
      let (r, s1) := rdcmd c s
      respond .ok (be32 r c.off.toNat) s1)
    s

/-- READ_ID (R103). -/
def execReadId (s : State) : Host.Outcome State Fault Refusal :=
  request .spi 0 (completes fun s => readRegister s.params.readId s) s

/-- READ_STATUS (R104): no bit of the value has a meaning here. -/
def execReadStatus (s : State) : Host.Outcome State Fault Refusal :=
  request .spi 0 (completes fun s => readRegister s.params.readStatus s) s

/-- POLL_BUSY (R105): OK even when busy. -/
def execPollBusy (s : State) : Host.Outcome State Fault Refusal :=
  request .spi 0
    (completes (inSequence (· != .burstOpen) fun s =>
      let (b, s1) := busyPoll s
      respond .ok (zext32 b) s1))
    s

end Sys2Proof.Machine
end

