-- ==== Sys2Proof/Machine/Dispatch.lean ====
section
/-! DEFINITION. exec: one arm per request of the opcode map (30_encoding.md R74), each one direct call of its meaning. -/

namespace Sys2Proof.Machine

def exec (i : Instr) (s : State) : Host.Outcome State Fault Refusal :=
  match i with
  | .initConfig board => Sys2Proof.Machine.execInitConfig board s
  | .progPulse => Sys2Proof.Machine.execProgPulse s
  | .readId => Sys2Proof.Machine.execReadId s
  | .readStatus => Sys2Proof.Machine.execReadStatus s
  | .pollBusy => Sys2Proof.Machine.execPollBusy s
  | .enterIsc => Sys2Proof.Machine.execEnterIsc s
  | .exitIsc => Sys2Proof.Machine.execExitIsc s
  | .burstBegin => Sys2Proof.Machine.execBurstBegin s
  | .burstData n => Sys2Proof.Machine.execBurstData n s
  | .burstEnd => Sys2Proof.Machine.execBurstEnd s
  | .sessionOpen => Sys2Proof.Machine.execSessionOpen s
  | .sessionClose => Sys2Proof.Machine.execSessionClose s
  | .sessionAbort => Sys2Proof.Machine.execSessionAbort s
  | .programDevice n => Sys2Proof.Machine.execProgramDevice n s
  | .frameTx n => Sys2Proof.Machine.execFrameTx n s
  | .frameRx maxSize => Sys2Proof.Machine.execFrameRx maxSize s
  | .cksum seed n => Sys2Proof.Machine.execCksum seed n s

end Sys2Proof.Machine
end

