-- ==== Sys2Proof/Machine/Request.lean ====
section
/-!
DEFINITION. What one move of the outside world does to PFC-SEQ (00_scope.md R13): a request from the controller
(30_encoding.md R70), bytes from the host (60_exceptions.md R248), a system reset between requests or inside one
(70_reset_and_hazards.md R260, R261).
-/

namespace Sys2Proof.Machine

/-- The controller issues (W, D): an illegal word is answered with E_ILLEGAL and no other effect (R75, R76, R232 step 1);
any other runs with D on the data port (R52). -/
def issue (word : U64) (data : List Byte) (s : State) : Host.Outcome State Fault Refusal :=
  match decode word with
  | .error _ => accept s (.next (respond .eIllegal 0 s))
  | .ok i => exec i { s with dataIn := data }

/-- A reset inside the request (W, D) after its first `events` events (R261): no response, what has happened on the wire
and to the transport stays, and nothing is sent to close a burst or ISC mode. -/
def cutShort (word : U64) (data : List Byte) (events : Nat) (tin : List Arrival) (s : State) :
    Host.Outcome State Fault Refusal :=
  match issue word data s with
  | .next t => .next (systemReset tin (partlyDone events s t))
  | .fault f => .fault f
  | .refused r => .refused r

/-- One move of the outside world. -/
def serve (i : Input) (s : State) : Host.Outcome State Fault Refusal :=
  match i with
  | .request word data => issue word data s
  | .hostSends arrivals => accept s (.next { s with tin := s.tin ++ arrivals })
  | .systemReset tin => accept s (.next (systemReset tin s))
  | .resetDuring word data events tin => cutShort word data events tin s

/-- The step: the oldest pending move, or, with none pending, PFC-SEQ idles with its state held (R247). -/
def serveNext (s : State) : Host.Outcome State Fault Refusal :=
  match s.inputs with
  | [] => accept s (.next s)
  | i :: rest => serve i { s with inputs := rest }

/-- The request of an opcode-table word: the word itself, and a data list of as many zero bytes as it asks for (R77). -/
def tableRequest (nbits w : Nat) : Input :=
  .request (tableWord nbits w)
    (match decode (tableWord nbits w) with
     | .ok i => List.replicate i.dataLength 0
     | .error _ => [])

end Sys2Proof.Machine
end

