-- ==== Sys2Proof/Machine/Step.lean ====
section
/-!
DEFINITION. The step: PFC-SEQ fetches nothing (10_state.md R21); each step takes the oldest pending move of the outside
world, a request of the controller in the first place (00_scope.md R14).
-/

namespace Sys2Proof.Machine

/-- One step. -/
def step (s : State) : Host.Outcome State Fault Refusal := serveNext s

/-- `s` with the table's request as the controller's next one (log 10). -/
def State.withFetchWord (s : State) (nbits w : Nat) : State :=
  { s with inputs := tableRequest nbits w :: s.inputs }

end Sys2Proof.Machine
end

