-- ==== Sys2Proof/Machine/Controller.lean ====
section
/-!
DEFINITION. The controller's side, as far as the spec describes it in PFC-SEQ requests: the lines and macros of the
assembler (30_encoding.md R79, R80), the request sequences of the source's dispatcher commands, from the FRAME_RX each
arrives by to the FRAME_TX that answers it (60_exceptions.md R243), of autoProgram (R244) and of the boot sequence
(70_reset_and_hazards.md R263). PFC-SEQ itself never sees any of this; the dispatcher and the flash layer are out of scope
(00_scope.md R5 (a), (b)), and so are the payload formats (R5 (e)): what a payload says, and what a response frame holds,
are arguments here.
-/

namespace Sys2Proof.Machine

/-- A line of assembly without a data list (R79). -/
def line (i : Instr) : Input := .request (encode i) []

/-- A line of assembly with a data list; the assembler fills in N (R79). -/
def dataLine (i : U32 → Instr) (data : List Byte) : Input :=
  .request (encode (i (BitVec.ofNat 32 data.length))) data

/-- Issues requests one after the other (R14). -/
def issueAll : List Input → State → Host.Outcome State Fault Refusal
  | [], s => .next s
  | i :: rest, s =>
    match serve i s with
    | .next t => issueAll rest t
    | .fault f => .fault f
    | .refused r => .refused r

/-- The last response the controller has seen, where its last entry is one. -/
def lastResponse (s : State) : Option Response :=
  match s.log.getLast? with
  | some (.response r) => some r
  | some (.reset _) => none
  | none => none

/-- CODE of the last response (R72). -/
def lastHasCode (c : Code) (s : State) : Bool :=
  match lastResponse s with
  | some r => r.word.extractLsb' 0 8 == c.toByte
  | none => false

/-- CODE of the last response is OK. -/
def lastIsOk (s : State) : Bool := lastHasCode .ok s

/-- Goes on from a next state. -/
def andThen (o : Host.Outcome State Fault Refusal) (next : State → Host.Outcome State Fault Refusal) :
    Host.Outcome State Fault Refusal :=
  match o with
  | .next t => next t
  | .fault f => .fault f
  | .refused r => .refused r

/-- Issues a request, then goes on only if it was answered OK. -/
def thenIfOk (i : Input) (next : State → Host.Outcome State Fault Refusal) (s : State) :
    Host.Outcome State Fault Refusal :=
  andThen (serve i s) fun t => if lastIsOk t then next t else .next t

/-- STREAM [B1] … [Bk] (R80). The macro ends at E_BUSY; it also ends at any other code but OK (log 21). -/
def stream (blocks : List (List Byte)) (s : State) : Host.Outcome State Fault Refusal :=
  thenIfOk (line .sessionOpen) (issueAll (blocks.map (dataLine .burstData) ++ [line .sessionClose])) s

/-- FORCE_END (R80). -/
def forceEnd (s : State) : Host.Outcome State Fault Refusal := serve (line .sessionAbort) s

/-- CKCHECK's comparison (R80): VALUE[7:0] of the last response is the expected checksum. -/
def checksumIs (expect : Byte) (s : State) : Bool :=
  match lastResponse s with
  | some r => r.word.extractLsb' 32 8 == expect
  | none => false

/-- What autoProgram needs of a flash descriptor (R244). -/
structure Descriptor where
  valid : Bool
  programOnStartup : Bool
  deriving DecidableEq, Repr

/-- Whether autoProgram(force) issues any request (R244): a descriptor that is present and valid, and its startup flag or
force. -/
def flashReady (force : Bool) (d : Option Descriptor) : Bool :=
  match d with
  | some d => d.valid && (d.programOnStartup || force)
  | none => false

/-- autoProgram(force) as a request sequence (R244). -/
def autoProgram (force : Bool) (d : Option Descriptor) (blocks : List (List Byte)) (s : State) :
    Host.Outcome State Fault Refusal :=
  if flashReady force d then stream blocks s else .next s

/-- The dispatcher's commands (R243; names by C2), with what of their contents the requests depend on. -/
inductive Command where
  | echo (payload : List Byte)
  | queryDevice
  | programDevice
  | programBlock (declared : Byte) (block : List Byte)
  | programComplete
  | queryBitstreamFlash
  | programBitstreamFromFlash (d : Option Descriptor) (blocks : List (List Byte))
  | clearBitstreamFlash
  | rebootProgrammer (tin : List Arrival)
  | unrecognized (genericError : List Byte)
  | deviceStartup (payload : List Byte)
  deriving DecidableEq, Repr

/-- The "PFC-SEQ requests" column of R243, row by row. ProgramBlock issues no BURST_DATA on a checksum mismatch. -/
def Command.perform (c : Command) (s : State) : Host.Outcome State Fault Refusal :=
  match c with
  | .echo payload => serve (dataLine .frameTx payload) s
  | .queryDevice => issueAll [line .sessionAbort, line .readId] s
  | .programDevice => serve (line .sessionOpen) s
  | .programBlock declared block =>
    andThen (serve (dataLine (.cksum 0) block) s) fun t =>
      if checksumIs declared t then serve (dataLine .burstData block) t else .next t
  | .programComplete => serve (line .sessionClose) s
  | .queryBitstreamFlash => serve (line .sessionAbort) s
  | .programBitstreamFromFlash d blocks => andThen (serve (line .sessionAbort) s) (autoProgram true d blocks)
  | .clearBitstreamFlash => serve (line .sessionAbort) s
  | .rebootProgrammer tin => serve (.systemReset tin) s
  | .unrecognized genericError => serve (dataLine .frameTx genericError) s
  | .deviceStartup payload => serve (dataLine .frameTx payload) s

/-- What the controller makes of a command's requests once they are done: the notes column of R243. -/
inductive Conclusion where
  /-- QueryDevice: the ID, and whether it is recognised. -/
  | device (id : U32) (recognised : Bool)
  /-- ProgramDevice: the session is open, or the "busy error". -/
  | started (busyError : Bool)
  /-- ProgramBlock: the block was written, or its checksum is not the declared one. -/
  | block (written : Bool)
  /-- ProgramComplete and ProgramBitstreamFromFlash: the "FPGA result was success". -/
  | finished (success : Bool)
  /-- The other commands conclude nothing from a PFC-SEQ response. -/
  | nothing
  /-- PFC-SEQ rejected a request of the command; the code stands in the last response. -/
  | rejected
  deriving DecidableEq, Repr

/-- VALUE of the last response, 0 where there is none. -/
def lastValue (s : State) : U32 :=
  match lastResponse s with
  | some r => r.word.extractLsb' 32 32
  | none => 0

/-- An ID is recognised iff it is in SUPPORTED_IDS (R243, 43_sessions.md R175). -/
def recognised (p : Params) (id : U32) : Bool := p.supportedIds.contains id

/-- The conclusion from the state that the command's requests leave (R243). autoProgram's result is failure where no
SESSION_CLOSE was answered OK (R244); `flashReady` says whether it issued any request (log 22). -/
def Command.conclusion (c : Command) (t : State) : Conclusion :=
  match c with
  | .queryDevice => if lastIsOk t then .device (lastValue t) (recognised t.params (lastValue t)) else .rejected
  | .programDevice =>
    if lastIsOk t then .started false else if lastHasCode .eBusy t then .started true else .rejected
  | .programBlock declared block =>
    if declared ≠ cksum block then .block false else if lastIsOk t then .block true else .rejected
  | .programComplete => .finished (lastIsOk t)
  | .programBitstreamFromFlash d _ => .finished (flashReady true d && lastIsOk t)
  | .echo _ => .nothing
  | .queryBitstreamFlash => .nothing
  | .clearBitstreamFlash => .nothing
  | .rebootProgrammer _ => .nothing
  | .unrecognized _ => .nothing
  | .deviceStartup _ => .nothing

/-- The controller's running checksum after a command (R243, 44_framer.md R200, R201): ProgramDevice sets it to 0, and a
block that passes its check is added to it (log 22). -/
def Command.runningChecksum (c : Command) (running : Byte) : Byte :=
  match c with
  | .programDevice => 0
  | .programBlock declared block => if declared = cksum block then sum8 running block else running
  | .echo _ => running
  | .queryDevice => running
  | .programComplete => running
  | .queryBitstreamFlash => running
  | .programBitstreamFromFlash _ _ => running
  | .clearBitstreamFlash => running
  | .rebootProgrammer _ => running
  | .unrecognized _ => running
  | .deviceStartup _ => running

/-- Whether a response frame follows the command's requests (R243): Echo, an unrecognized tag and DeviceStartup have sent
their one frame as their request, and RebootProgrammer is answered by none. -/
def Command.needsAnswer : Command → Bool
  | .echo _ => false
  | .queryDevice => true
  | .programDevice => true
  | .programBlock _ _ => true
  | .programComplete => true
  | .queryBitstreamFlash => true
  | .programBitstreamFromFlash _ _ => true
  | .clearBitstreamFlash => true
  | .rebootProgrammer _ => false
  | .unrecognized _ => false
  | .deviceStartup _ => false

/-- A command's requests, then the FRAME_TX that answers it (R243). `reply` is the response payload the dispatcher forms
from what it concludes; its format is out of scope (R5 (e)). -/
def Command.handle (reply : Command → Conclusion → List Byte) (c : Command) (s : State) :
    Host.Outcome State Fault Refusal :=
  andThen (c.perform s) fun t =>
    if c.needsAnswer then serve (dataLine .frameTx (reply c (c.conclusion t))) t else .next t

/-- The payload that the last FRAME_RX returned (R203). -/
def lastDout (s : State) : List Byte :=
  match lastResponse s with
  | some r => r.dout
  | none => []

/-- What a boot of the controller depends on besides PFC-SEQ (R263): the board identity, which of auto-programming and the
DeviceStartup frame comes first, that frame's payload, and what the flash layer finds. -/
structure BootData where
  board : Byte
  startupFirst : Bool
  startup : List Byte
  descriptor : Option Descriptor
  blocks : List (List Byte)
  deriving DecidableEq, Repr

/-- The boot sequence up to the request loop (R263): INIT_CONFIG, then autoProgram(force=false) and the DeviceStartup frame
in either order, since the source does not say which comes first. DESIGN CHOICE (log 23): it goes on to the next step
whatever codes INIT_CONFIG and autoProgram's requests were answered with, where R263 does not say what a failure does. -/
def boot (b : BootData) (s : State) : Host.Outcome State Fault Refusal :=
  let startup := Command.perform (.deviceStartup b.startup)
  let auto := autoProgram false b.descriptor b.blocks
  andThen (serve (line (.initConfig b.board)) s) fun t =>
    if b.startupFirst then andThen (startup t) auto else andThen (auto t) startup

/-- The parts of the dispatcher whose formats are out of scope (R5 (a), (b), (e)), each from all that the controller has
seen so far (log 24): the buffer size it gives FRAME_RX, what a boot finds, which command a payload is, and the payload of
a response. -/
structure Dispatcher where
  maxSize : U32
  bootData : List LogEntry → BootData
  command : List LogEntry → List Byte → Command
  reply : List LogEntry → Command → Conclusion → List Byte

/-- One poll of the dispatcher's request loop (R243, R263 step 4): FRAME_RX, and once it is OK the command that its payload
says, with its answer. -/
def dispatchOnce (d : Dispatcher) (s : State) : Host.Outcome State Fault Refusal :=
  thenIfOk (line (.frameRx d.maxSize)) (fun t => (d.command t.log (lastDout t)).handle (d.reply t.log) t) s

/-- The controller's last event is a RESET: its last command was RebootProgrammer (R243). -/
def wasReset (s : State) : Bool :=
  match s.log.getLast? with
  | some (.reset _) => true
  | some (.response _) => false
  | none => false

/-- A reset controller boots again (R260, R263). -/
def rebootIfReset (d : Dispatcher) (s : State) : Host.Outcome State Fault Refusal :=
  if wasReset s then boot (d.bootData s.log) s else .next s

/-- The request loop (R263 step 4): FRAME_RX polled until OK, then the command's requests, then FRAME_TX, and again. The
loop has no end of its own; the list has one entry a FRAME_RX, the bytes that the host has sent since the one before
(60_exceptions.md R248), so that a loop of any length, with any number of polls between two frames, is some list (log 24). -/
def requestLoop (d : Dispatcher) : List (List Arrival) → State → Host.Outcome State Fault Refusal
  | [], s => .next s
  | sent :: later, s =>
    andThen (serve (.hostSends sent) s) fun t =>
      andThen (dispatchOnce d t) fun u =>
        andThen (rebootIfReset d u) (requestLoop d later)

/-- The whole boot sequence of R263, steps 1 to 4: the boot, then the request loop. -/
def runController (d : Dispatcher) (polls : List (List Arrival)) (s : State) : Host.Outcome State Fault Refusal :=
  andThen (boot (d.bootData s.log) s) (requestLoop d polls)

end Sys2Proof.Machine
end

