-- ==== Sys2Proof/Safety.lean ====
section
/-!
DEFINITION. The terms claims about PFC-SEQ use: the coming MISO draws and the wire sequences of 30_encoding.md R81 and
R82 written from them, the legal states and codes of each request, the machine's invariant, and a clean run
(70_reset_and_hazards.md R269). Nothing here is used by a step.
-/

namespace Sys2Proof.Machine

/-! ## The coming MISO draws (R16) -/

/-- The draw `i` transfers ahead, from the listed bytes and the count of free ones. -/
def drawAt (miso : List Byte) (count : Nat) (i : Nat) : Byte :=
  if i < miso.length then miso.getD i 0 else Config.freeMiso (count + (i - miso.length))

/-- The MISO byte of the XFER that is `i` transfers ahead. -/
def misoAt (s : State) (i : Nat) : Byte := drawAt s.miso s.misoCount i

/-- The state with `n` MISO draws used up, and nothing else changed. -/
def afterDraws (n : Nat) (s : State) : State :=
  { s with miso := s.miso.drop n, misoCount := s.misoCount + (n - s.miso.length) }

/-- The XFER events of a byte list shifted out at the chip-select level `cs`, the first of them `k` transfers ahead. -/
def xferEvents (cs : Bool) (miso : Nat → Byte) : Nat → List Byte → List Event
  | _, [] => []
  | k, m :: ms => .xfer cs m (miso k) :: xferEvents cs miso (k + 1) ms

/-! ## Wire sequences (R81, R82) -/

/-- A read transaction (R81) that starts `k` transfers ahead: the command byte, then the read phase of FILL bytes. -/
def readWire (s : State) (k : Nat) (c : ReadCmd) : List Event :=
  [.cs true] ++ xferEvents true (misoAt s) k (c.cmd :: List.replicate c.len.toNat s.params.fill) ++ [.cs false]

/-- A command transaction (R82) that starts `k` transfers ahead. -/
def cmdWire (s : State) (k : Nat) (t : List Byte) : List Event :=
  [.cs true] ++ xferEvents true (misoAt s) k t ++ [.cs false]

/-- The opening of a burst (R82) that starts `k` transfers ahead: chip-select stays asserted. -/
def burstWire (s : State) (k : Nat) : List Event :=
  [.cs true] ++ xferEvents true (misoAt s) k s.params.txBurst

/-- The end of a burst (R82). -/
def closeWire : List Event := [.cs false, .delay .burstSettle]

/-- The program-enable pulse (R102). -/
def pulseWire : List Event := [.prog false, .delay .progLow, .prog true, .delay .progSettle]

/-- How many bytes a read transaction moves (20_memory.md R61). -/
def readLength (c : ReadCmd) : Nat := 1 + c.len.toNat

/-- The 32-bit register value of a read that starts `k` transfers ahead: four consecutive received bytes from the fixed
offset of the read phase, most significant first (20_memory.md R56). -/
def registerAt (s : State) (k : Nat) (c : ReadCmd) : U32 :=
  misoAt s (k + 1 + c.off.toNat) ++ misoAt s (k + 2 + c.off.toNat) ++ misoAt s (k + 3 + c.off.toNat)
    ++ misoAt s (k + 4 + c.off.toNat)

/-- The busy byte of a poll that starts `k` transfers ahead (R105). -/
def busyAt (s : State) (k : Nat) : Byte := misoAt s (k + 1 + s.params.readBusy.off.toNat)

/-- The poll that starts `k` transfers ahead reads busy: (b AND BUSY_MASK) ≠ 0 (R9). -/
def busyThen (s : State) (k : Nat) : Bool := (busyAt s k &&& s.params.busyMask) != 0

/-! ## The receive buffer and the transport stream -/

/-- RXBUF with a byte list written from index `i` on, in order (R203). -/
def Memory.writes : Memory → Nat → List Byte → Memory
  | m, _, [] => m
  | m, i, v :: vs => Memory.writes (m.write i v) (i + 1) vs

/-- The next transport read times out (R17), and `rest` is the stream after it. -/
def TimesOut (tin rest : List Arrival) : Prop := (tin = [] ∧ rest = []) ∨ tin = .late :: rest

/-- Bytes that arrive in time, one after the other. -/
def inTime (bs : List Byte) : List Arrival := bs.map .byte

/-! ## Which requests are legal when -/

/-- The unassigned OP values, range by range as R75 lists them. -/
def unassignedOp (op : Byte) : Bool :=
  let n := op.toNat
  decide (n = 0x00) || decide (0x03 ≤ n ∧ n ≤ 0x0F) || decide (0x13 ≤ n ∧ n ≤ 0x1F) || decide (0x22 ≤ n ∧ n ≤ 0x2F)
    || decide (0x33 ≤ n ∧ n ≤ 0x3F) || decide (0x44 ≤ n ∧ n ≤ 0x4F) || decide (0x53 ≤ n ∧ n ≤ 0xFF)

/-- The requests that need INIT: class `spi` of R232. -/
def needsInit : Instr → Bool
  | .initConfig _ => false
  | .progPulse => true
  | .readId => true
  | .readStatus => true
  | .pollBusy => true
  | .enterIsc => true
  | .exitIsc => true
  | .burstBegin => true
  | .burstData _ => true
  | .burstEnd => true
  | .sessionOpen => true
  | .sessionClose => true
  | .sessionAbort => true
  | .programDevice _ => true
  | .frameTx _ => false
  | .frameRx _ => false
  | .cksum _ _ => false

/-- The sequencer states a request is in sequence in, as its rule says (R102-R105, R131, R132, R150, R151, R153, R170,
R172-R174). INIT_CONFIG is out of sequence by INIT, not by SEQ (R101). -/
def legalIn : Instr → SeqState → Bool
  | .initConfig _, _ => true
  | .progPulse, q => q == .idle
  | .readId, q => q != .burstOpen
  | .readStatus, q => q != .burstOpen
  | .pollBusy, q => q != .burstOpen
  | .enterIsc, q => q == .idle
  | .exitIsc, q => q == .iscEnabled || q == .burstClosed
  | .burstBegin, q => q == .iscEnabled
  | .burstData _, _ => true
  | .burstEnd, q => q == .burstOpen
  | .sessionOpen, q => q == .idle
  | .sessionClose, q => q != .idle
  | .sessionAbort, _ => true
  | .programDevice _, q => q == .idle
  | .frameTx _, _ => true
  | .frameRx _, _ => true
  | .cksum _ _, _ => true

/-- The codes a request can return once its word is legal: the table of R231 without its E_ILLEGAL column. -/
def codesOf : Instr → List Code
  | .initConfig _ => [.eArg, .eSeq, .ok]
  | .progPulse => [.eArg, .eNoInit, .eSeq, .ok]
  | .readId => [.eArg, .eNoInit, .eSeq, .ok]
  | .readStatus => [.eArg, .eNoInit, .eSeq, .ok]
  | .pollBusy => [.eArg, .eNoInit, .eSeq, .ok]
  | .enterIsc => [.eArg, .eNoInit, .eSeq, .ok]
  | .exitIsc => [.eArg, .eNoInit, .eSeq, .ok]
  | .burstBegin => [.eArg, .eNoInit, .eSeq, .ok]
  | .burstData _ => [.eArg, .eNoInit, .ok]
  | .burstEnd => [.eArg, .eNoInit, .eSeq, .ok]
  | .sessionOpen => [.eArg, .eNoInit, .eSeq, .eBusy, .ok]
  | .sessionClose => [.eArg, .eNoInit, .eSeq, .eBusy, .ok]
  | .sessionAbort => [.eArg, .eNoInit, .ok]
  | .programDevice _ => [.eArg, .eNoInit, .eSeq, .eId, .eBusy, .ok]
  | .frameTx _ => [.eArg, .ok]
  | .frameRx _ => [.eArg, .noFrame, .ok]
  | .cksum _ _ => [.eArg, .ok]

/-- The moves of SEQ each request may make besides leaving it (R25): its edges, taken one after the other within one
request where the rule says so. -/
def seqMoves : Instr → List (SeqState × SeqState)
  | .initConfig _ => []
  | .progPulse => []
  | .readId => []
  | .readStatus => []
  | .pollBusy => []
  | .enterIsc => [(.idle, .iscEnabled)]
  | .exitIsc => [(.iscEnabled, .idle), (.burstClosed, .idle)]
  | .burstBegin => [(.iscEnabled, .burstOpen)]
  | .burstData _ => []
  | .burstEnd => [(.burstOpen, .burstClosed)]
  | .sessionOpen => [(.idle, .burstOpen)]
  | .sessionClose => [(.iscEnabled, .idle), (.burstClosed, .idle), (.burstOpen, .idle)]
  | .sessionAbort => [(.iscEnabled, .idle), (.burstClosed, .idle), (.burstOpen, .idle)]
  | .programDevice _ => []
  | .frameTx _ => []
  | .frameRx _ => []
  | .cksum _ _ => []

/-- A code of a rejection (R230, R234). -/
def Code.isRejection : Code → Bool
  | .ok => false
  | .eBusy => false
  | .eId => false
  | .eSeq => true
  | .eNoInit => true
  | .eIllegal => true
  | .eArg => true
  | .noFrame => false

/-- A request is admitted (R232): its instantiation is well-formed, its data list agrees with it, and INIT is set where it
needs it. -/
def Admitted (i : Instr) (s : State) : Prop :=
  s.params.wf = true ∧ i.agrees s.dataIn = true ∧ (needsInit i = true → s.init = true)

/-- The response with CODE c ended the request: it is the one new entry of the log. -/
def AnsweredWith (c : Code) (s t : State) : Prop :=
  ∃ r, t.log = s.log ++ [.response r] ∧ r.word.extractLsb' 0 8 = c.toByte

/-! ## The invariant -/

/-- The output levels that the events of a trace leave behind. -/
structure Pins where
  cs : Bool
  prog : Bool
  deriving DecidableEq, Repr

/-- Follows a trace from given levels; `none` if an XFER event carries another chip-select level than the one the CS
events before it set (R11). -/
def replay : Pins → List Event → Option Pins
  | p, [] => some p
  | p, .cs a :: es => replay { p with cs := a } es
  | p, .prog l :: es => replay { p with prog := l } es
  | p, .xfer c _ _ :: es => if c = p.cs then replay p es else none
  | p, .spiInit :: es => replay p es
  | p, .delay _ :: es => replay p es
  | p, .tx _ :: es => replay p es

/-- How many responses the log holds after its last RESET. -/
def responsesSinceReset (log : List LogEntry) : Nat :=
  log.foldl (fun n e => match e with | .response _ => n + 1 | .reset _ => 0) 0

/-- What holds between requests in every state a run reaches. -/
structure SeqInv (s : State) : Prop where
  /-- The CS column of R24: chip-select is asserted exactly in BurstOpen. -/
  csInBurst : s.csa = true ↔ s.seq = .burstOpen
  /-- PINDRV = INIT (R28). -/
  pinsDriven : s.pindrv = s.init
  /-- PROGN is 1 between requests (R29). -/
  progHigh : s.progn = true
  /-- A session needs INIT (R101): before it, SEQ is Idle. -/
  idleBeforeInit : s.init = false → s.seq = .idle
  /-- No request is half done: the data port is free (R60). -/
  portFree : s.dataIn = []
  /-- The trace leaves the levels that CSA and PROGN hold, and every XFER event carries the level of its time (R11, R33). -/
  traceLevels : replay { cs := false, prog := true } s.trace = some { cs := s.csa, prog := s.progn }
  /-- RXBUF is in canonical form. -/
  rxCanonical : s.rxbuf.wf
  /-- RXBUF holds no index beyond RX_BUF_SIZE (R51). -/
  rxInRange : ∀ c ∈ s.rxbuf, c.1 < s.params.rxBufSize.toNat
  /-- Every byte of RXBUF with a known value is one that RXBUF has and lists (R32, R206). -/
  rxKnownListed : s.rxKnown ≤ s.params.rxBufSize.toNat ∧ ∀ i, i < s.rxKnown → (s.rxbuf.read i).isSome = true
  /-- k counts the responses since reset (R21, R72). -/
  indexCounts : s.reqIndex = responsesSinceReset s.log
  /-- TOUT ends with the bytes transmitted since reset, in order (R34). -/
  toutEnds : txBytes s.trace <:+ s.tout

/-- A clean run so far (R269): no request was out of sequence and no data was stray. -/
def Clean (s : State) : Prop := s.flags.seqErr = false ∧ s.flags.stray = false

end Sys2Proof.Machine
end

