-- ==== Sys2Proof/Certificates/Slice0/Obligations.lean ====
section
/-!
DEFINITION. The statements for the provers. A statement that gives `exec i s = .next t` for a written-out t says the
request's result, that it completes, and its frame at once: every field of State that t does not name is s's own, RXBUF
and both transport streams included. `respond c v u` is u with one more response (CODE c, VALUE v, FLAGS and SEQ of u) in
the log (log 9), the index k advanced by 1 and the data port free (log 14). A MISO draw is never fixed: `misoAt s i` is whatever the draws of s are (log 3).
-/

open Sys2Proof Sys2Proof.Machine

/-! ## Encoding (30_encoding.md) -/

/-- R70, R71, R74: the decoder reads every request back from its word, with every operand at every value. -/
def Obligations.DecodeReadsEveryEncodedRequest : Prop :=
  ∀ i : Instr, decode (encode i) = .ok i

/-- R70, R74, R76: a request word that decodes is the word of the request it decodes to: no bit of it is ignored. -/
def Obligations.NoBitOfALegalWordIsIgnored : Prop :=
  ∀ (w : U64) (i : Instr), decode w = .ok i → encode i = w

/-- The words of R79, written out, decode to the requests they stand for. -/
def Obligations.AssemblerExampleWordsDecode : Prop :=
  decode 0x0000000000000001 = .ok (.initConfig 0x00) ∧ decode 0x0000000000000010 = .ok .readId ∧
  decode 0x0000000000000020 = .ok .enterIsc ∧ decode 0x0000000300000031 = .ok (.burstData 3) ∧
  decode 0x0000000000000040 = .ok .sessionOpen ∧ decode 0x0000000200000043 = .ok (.programDevice 2) ∧
  decode 0x0000004000000051 = .ok (.frameRx 64) ∧ decode 0x0000000200001052 = .ok (.cksum 0x10 2)

/-- R75: each of the 239 unassigned OP values is answered with E_ILLEGAL and has no other effect. -/
def Obligations.UnassignedOpIsRejected : Prop :=
  (∀ (s : State) (w : U64) (d : List Byte), s.params.wf = true → unassignedOp (opField w) = true →
      issue w d s = .next (respond .eIllegal 0 s)) ∧
  ((List.range 256).filter fun n => unassignedOp (BitVec.ofNat 8 n)).length = 239

/-- R76: with an assigned OP, RSVD ≠ 0, A8 ≠ 0 where the table's A8 column is 0, or N ≠ 0 where its N column is 0 is
answered with E_ILLEGAL and has no other effect. -/
def Obligations.ReservedFieldIsRejected : Prop :=
  ∀ (s : State) (w : U64) (d : List Byte), s.params.wf = true → unassignedOp (opField w) = false →
    (rsvdField w ≠ 0 ∨ (opField w ∉ [(0x01 : Byte), 0x52] ∧ a8Field w ≠ 0) ∨
      (opField w ∉ [(0x31 : Byte), 0x43, 0x50, 0x51, 0x52] ∧ nField w ≠ 0)) →
    issue w d s = .next (respond .eIllegal 0 s)

/-- R77: the data list must hold exactly N bytes for the four requests that take data and be empty for every other; a
request that breaks this is answered with E_ARG and has no other effect. -/
def Obligations.DataLengthDisagreementIsRejected : Prop :=
  ∀ (s : State) (i : Instr) (d : List Byte), s.params.wf = true →
    d.length ≠ (match i with
      | .burstData n => n.toNat
      | .programDevice n => n.toNat
      | .frameTx n => n.toNat
      | .cksum _ n => n.toNat
      | _ => 0) →
    issue (encode i) d s = .next (respond .eArg 0 s)

/-- R232, third check: a request of class spi with a well-formed word and data list is answered with E_NOINIT before
INIT_CONFIG, whatever SEQ is, and has no other effect. -/
def Obligations.SpiRequestBeforeInitIsRejected : Prop :=
  ∀ (s : State) (i : Instr), s.params.wf = true → needsInit i = true → i.agrees s.dataIn = true → s.init = false →
    exec i s = .next (respond .eNoInit 0 s)

/-- R233: an admitted request that is out of sequence for SEQ sets FLAGS.SEQERR and answers E_SEQ; nothing else changes
and nothing reaches the wire. -/
def Obligations.OutOfSequenceRequestIsRejected : Prop :=
  ∀ (s : State) (i : Instr), Admitted i s → legalIn i s.seq = false →
    exec i s = .next (respond .eSeq 0 { s with flags := { s.flags with seqErr := true } })

/-! ## Initialisation and register reads (40_spi_primitive.md) -/

/-- R101: the first INIT_CONFIG with a known board. -/
def Obligations.FirstInitConfigSetsUpThePins : Prop :=
  ∀ (s : State) (b : Byte) (cfg : DeviceConfig), s.params.wf = true → s.dataIn = [] → s.params.board b = some cfg →
    s.init = false →
    exec (.initConfig b) s = .next (respond .ok 0
      { s with
        cfg := cfg, pindrv := true, progn := true, csa := false, init := true
        trace := s.trace ++ [.prog true, .cs false, .spiInit, .delay .initSettle] })

/-- R101: an unknown board is E_ARG whether or not INIT is set, and a second call with a known board is E_SEQ. -/
def Obligations.InitConfigRejections : Prop :=
  ∀ (s : State) (b : Byte), s.params.wf = true → s.dataIn = [] →
    (s.params.board b = none → exec (.initConfig b) s = .next (respond .eArg 0 s)) ∧
    ((s.params.board b).isSome = true → s.init = true →
      exec (.initConfig b) s = .next (respond .eSeq 0 { s with flags := { s.flags with seqErr := true } }))

/-- R102: PROG_PULSE in Idle: low, delay, high, delay. -/
def Obligations.ProgPulseGoesLowThenHigh : Prop :=
  ∀ s : State, Admitted .progPulse s → s.seq = .idle →
    exec .progPulse s = .next (respond .ok 0
      { s with
        progn := true
        trace := s.trace ++ [.prog false, .delay .progLow, .prog true, .delay .progSettle] })

/-- R103: READ_ID outside BurstOpen puts one read transaction on the wire and returns four bytes of its read phase, most
significant first, from the fixed offset. -/
def Obligations.ReadIdReturnsTheReceivedId : Prop :=
  ∀ s : State, Admitted .readId s → s.seq ≠ .burstOpen →
    exec .readId s = .next (respond .ok (registerAt s 0 s.params.readId)
      { afterDraws (readLength s.params.readId) s with
        csa := false, trace := s.trace ++ readWire s 0 s.params.readId })

/-- R104: READ_STATUS, likewise. -/
def Obligations.ReadStatusReturnsTheReceivedStatus : Prop :=
  ∀ s : State, Admitted .readStatus s → s.seq ≠ .burstOpen →
    exec .readStatus s = .next (respond .ok (registerAt s 0 s.params.readStatus)
      { afterDraws (readLength s.params.readStatus) s with
        csa := false, trace := s.trace ++ readWire s 0 s.params.readStatus })

/-- R105: POLL_BUSY outside BurstOpen returns the busy byte, with CODE OK whatever it is, and FLAGS.BUSY records it. -/
def Obligations.PollBusyRecordsTheBusyByte : Prop :=
  ∀ s : State, Admitted .pollBusy s → s.seq ≠ .burstOpen →
    exec .pollBusy s = .next (respond .ok ((busyAt s 0).setWidth 32)
      { afterDraws (readLength s.params.readBusy) s with
        csa := false, flags := { s.flags with busy := busyThen s 0 }
        trace := s.trace ++ readWire s 0 s.params.readBusy })

/-! ## Configuration mode (41_config_mode.md) -/

/-- R131: ENTER_ISC in Idle sends the ISC-enable transaction, without a busy poll. -/
def Obligations.EnterIscSendsIscEnable : Prop :=
  ∀ s : State, Admitted .enterIsc s → s.seq = .idle →
    exec .enterIsc s = .next (respond .ok 0
      { afterDraws s.params.txIscEn.length s with
        csa := false, seq := .iscEnabled, trace := s.trace ++ cmdWire s 0 s.params.txIscEn })

/-- R132: EXIT_ISC in IscEnabled and in BurstClosed sends the ISC-disable transaction, without a busy poll. -/
def Obligations.ExitIscSendsIscDisable : Prop :=
  ∀ s : State, Admitted .exitIsc s → (s.seq = .iscEnabled ∨ s.seq = .burstClosed) →
    exec .exitIsc s = .next (respond .ok 0
      { afterDraws s.params.txIscDis.length s with
        csa := false, seq := .idle, trace := s.trace ++ cmdWire s 0 s.params.txIscDis })

/-! ## Burst write (42_burst_write.md) -/

/-- R150: BURST_BEGIN in IscEnabled sends the burst-write opcode once and leaves chip-select asserted. -/
def Obligations.BurstBeginLeavesChipSelectAsserted : Prop :=
  ∀ s : State, Admitted .burstBegin s → s.seq = .iscEnabled →
    exec .burstBegin s = .next (respond .ok 0
      { afterDraws s.params.txBurst.length s with
        csa := true, seq := .burstOpen, bcnt := 0, trace := s.trace ++ burstWire s 0 })

/-- R151: BURST_DATA in BurstOpen shifts its bytes out in list order and counts one data request modulo 2^32. -/
def Obligations.BurstDataStreamsItsBytes : Prop :=
  ∀ (s : State) (n : U32), Admitted (.burstData n) s → s.seq = .burstOpen →
    exec (.burstData n) s = .next (respond .ok n
      { afterDraws s.dataIn.length s with
        bcnt := s.bcnt + 1, trace := s.trace ++ xferEvents s.csa (misoAt s) 0 s.dataIn })

/-- R152: BURST_DATA outside BurstOpen sends its bytes all the same, at the chip-select level there is, and sets
FLAGS.STRAY; SEQ and BCNT are unchanged. -/
def Obligations.StrayDataIsSentAndMarked : Prop :=
  ∀ (s : State) (n : U32), Admitted (.burstData n) s → s.seq ≠ .burstOpen →
    exec (.burstData n) s = .next (respond .ok n
      { afterDraws s.dataIn.length s with
        flags := { s.flags with stray := true }
        trace := s.trace ++ xferEvents s.csa (misoAt s) 0 s.dataIn })

/-- R153: BURST_END in BurstOpen deasserts chip-select, waits the settle delay and returns BCNT, which it keeps. -/
def Obligations.BurstEndReturnsTheBlockCount : Prop :=
  ∀ s : State, Admitted .burstEnd s → s.seq = .burstOpen →
    exec .burstEnd s = .next (respond .ok s.bcnt
      { s with csa := false, seq := .burstClosed, trace := s.trace ++ [.cs false, .delay .burstSettle] })

/-- R154: while a burst is open, a request other than BURST_DATA either puts nothing on the SPI wire, or it is BURST_END,
SESSION_CLOSE or SESSION_ABORT and its first two events end the burst. -/
def Obligations.OpenBurstIsContiguous : Prop :=
  ∀ (s t : State) (i : Instr), s.seq = .burstOpen → s.init = true → (∀ n, i ≠ .burstData n) → exec i s = .next t →
    wireTrace t = wireTrace s ∨
      ((i = .burstEnd ∨ i = .sessionClose ∨ i = .sessionAbort) ∧
        ∃ rest, wireTrace t = wireTrace s ++ [.cs false, .delay .burstSettle] ++ rest)

/-! ## Sessions (43_sessions.md) -/

/-- R170: SESSION_OPEN in Idle with a not-busy poll: the poll, ISC-enable, the opening of the burst. -/
def Obligations.SessionOpenEntersTheBurst : Prop :=
  ∀ s : State, Admitted .sessionOpen s → s.seq = .idle → busyThen s 0 = false →
    exec .sessionOpen s = .next (respond .ok ((busyAt s 0).setWidth 32)
      { afterDraws (readLength s.params.readBusy + s.params.txIscEn.length + s.params.txBurst.length) s with
        csa := true, seq := .burstOpen, bcnt := 0, flags := { s.flags with busy := false }
        trace := s.trace ++ readWire s 0 s.params.readBusy
          ++ cmdWire s (readLength s.params.readBusy) s.params.txIscEn
          ++ burstWire s (readLength s.params.readBusy + s.params.txIscEn.length) })

/-- R171: SESSION_OPEN in Idle with a busy poll: E_BUSY; the poll is all that reaches the wire, and FLAGS.BUSY all that
changes. -/
def Obligations.BusyGuardKeepsTheSessionClosed : Prop :=
  ∀ s : State, Admitted .sessionOpen s → s.seq = .idle → busyThen s 0 = true →
    exec .sessionOpen s = .next (respond .eBusy ((busyAt s 0).setWidth 32)
      { afterDraws (readLength s.params.readBusy) s with
        csa := false, flags := { s.flags with busy := true }
        trace := s.trace ++ readWire s 0 s.params.readBusy })

/-- R172: SESSION_CLOSE from IscEnabled, BurstOpen and BurstClosed: the burst is ended where one is open, ISC is exited,
and the poll after it decides between OK and E_BUSY; SEQ is Idle after both, and BCNT keeps its count. -/
def Obligations.SessionCloseExitsThenPolls : Prop :=
  ∀ s : State, Admitted .sessionClose s → s.seq ≠ .idle →
    exec .sessionClose s = .next (respond (if busyThen s s.params.txIscDis.length then .eBusy else .ok)
      ((busyAt s s.params.txIscDis.length).setWidth 32)
      { afterDraws (s.params.txIscDis.length + readLength s.params.readBusy) s with
        csa := false, seq := .idle, flags := { s.flags with busy := busyThen s s.params.txIscDis.length }
        trace := s.trace ++ (if s.seq = .burstOpen then [.cs false, .delay .burstSettle] else [])
          ++ cmdWire s 0 s.params.txIscDis ++ readWire s s.params.txIscDis.length s.params.readBusy })

/-- R173: SESSION_ABORT ends whatever is open, without a poll, and answers OK in every SEQ; in Idle it does nothing. -/
def Obligations.SessionAbortEndsTheSession : Prop :=
  ∀ s : State, Admitted .sessionAbort s →
    exec .sessionAbort s = .next (respond .ok 0
      (if s.seq = .idle then s
       else
        { afterDraws s.params.txIscDis.length s with
          csa := false, seq := .idle
          trace := s.trace ++ (if s.seq = .burstOpen then [.cs false, .delay .burstSettle] else [])
            ++ cmdWire s 0 s.params.txIscDis }))

/-- R174: PROGRAM_DEVICE in Idle with a whitelisted ID and a not-busy first poll: the pulse, the ID read, the poll,
ISC-enable, one burst with the whole buffer, ISC-disable, the final poll, which decides between OK and E_BUSY. -/
def Obligations.ProgramDeviceRunsTheFullSequence : Prop :=
  ∀ (s : State) (n : U32), Admitted (.programDevice n) s → s.seq = .idle →
    registerAt s 0 s.params.readId ∈ s.params.supportedIds →
    busyThen s (readLength s.params.readId) = false →
    let k1 := readLength s.params.readId
    let k2 := k1 + readLength s.params.readBusy
    let k3 := k2 + s.params.txIscEn.length
    let k4 := k3 + s.params.txBurst.length
    let k5 := k4 + s.dataIn.length
    let k6 := k5 + s.params.txIscDis.length
    exec (.programDevice n) s = .next (respond (if busyThen s k6 then .eBusy else .ok) ((busyAt s k6).setWidth 32)
      { afterDraws (k6 + readLength s.params.readBusy) s with
        csa := false, seq := .idle, bcnt := 1, progn := true, flags := { s.flags with busy := busyThen s k6 }
        trace := s.trace ++ [.prog false, .delay .progLow, .prog true, .delay .progSettle]
          ++ readWire s 0 s.params.readId ++ readWire s k1 s.params.readBusy ++ cmdWire s k2 s.params.txIscEn
          ++ burstWire s k3 ++ xferEvents true (misoAt s) k4 s.dataIn ++ [.cs false, .delay .burstSettle]
          ++ cmdWire s k5 s.params.txIscDis ++ readWire s k6 s.params.readBusy })

/-- R174, R175: PROGRAM_DEVICE in Idle with an ID that equals no member of the whitelist: E_ID with the ID, after the
pulse and the ID read and nothing else, with no busy poll. -/
def Obligations.ProgramDeviceRefusesAnUnknownId : Prop :=
  ∀ (s : State) (n : U32), Admitted (.programDevice n) s → s.seq = .idle →
    registerAt s 0 s.params.readId ∉ s.params.supportedIds →
    exec (.programDevice n) s = .next (respond .eId (registerAt s 0 s.params.readId)
      { afterDraws (readLength s.params.readId) s with
        csa := false, progn := true
        trace := s.trace ++ [.prog false, .delay .progLow, .prog true, .delay .progSettle]
          ++ readWire s 0 s.params.readId })

/-- R174: PROGRAM_DEVICE in Idle with a whitelisted ID and a busy first poll: E_BUSY after the pulse, the ID read and the
poll; no ISC or burst byte is sent. -/
def Obligations.ProgramDeviceStopsWhenBusy : Prop :=
  ∀ (s : State) (n : U32), Admitted (.programDevice n) s → s.seq = .idle →
    registerAt s 0 s.params.readId ∈ s.params.supportedIds →
    busyThen s (readLength s.params.readId) = true →
    exec (.programDevice n) s = .next (respond .eBusy ((busyAt s (readLength s.params.readId)).setWidth 32)
      { afterDraws (readLength s.params.readId + readLength s.params.readBusy) s with
        csa := false, progn := true, flags := { s.flags with busy := true }
        trace := s.trace ++ [.prog false, .delay .progLow, .prog true, .delay .progSettle]
          ++ readWire s 0 s.params.readId ++ readWire s (readLength s.params.readId) s.params.readBusy })

/-- R176 (derived there), R80's STREAM: from Idle with a not-busy poll, a session with any blocks puts on the wire exactly
the poll, ISC-enable, one burst holding the blocks in order, ISC-disable and the final poll. -/
def Obligations.StreamedSessionIsOneBurst : Prop :=
  ∀ (s : State) (blocks : List (List Byte)), s.params.wf = true → s.init = true → s.seq = .idle →
    busyThen s 0 = false → (∀ b ∈ blocks, b.length < 2 ^ 32) →
    let k1 := readLength s.params.readBusy
    let k2 := k1 + s.params.txIscEn.length
    let k3 := k2 + s.params.txBurst.length
    let k4 := k3 + blocks.flatten.length
    let k5 := k4 + s.params.txIscDis.length
    ∃ t, stream blocks s = .next t ∧ t.seq = .idle ∧ t.bcnt = BitVec.ofNat 32 blocks.length ∧
      t.reqIndex = s.reqIndex + blocks.length + 2 ∧
      t.trace = s.trace ++ readWire s 0 s.params.readBusy ++ cmdWire s k1 s.params.txIscEn ++ burstWire s k2
        ++ xferEvents true (misoAt s) k3 blocks.flatten ++ [.cs false, .delay .burstSettle]
        ++ cmdWire s k4 s.params.txIscDis ++ readWire s k5 s.params.readBusy

/-- R244: autoProgram without force on a descriptor whose startup flag is off, or on none, issues nothing; with force, or
with the flag on, a valid descriptor streams its blocks. -/
def Obligations.AutoProgramNeedsForceOrTheFlag : Prop :=
  ∀ (s : State) (valid startup force : Bool) (blocks : List (List Byte)),
    autoProgram force none blocks s = .next s ∧
    autoProgram false (some { valid := valid, programOnStartup := false }) blocks s = .next s ∧
    (valid = true → (startup = true ∨ force = true) →
      autoProgram force (some { valid := valid, programOnStartup := startup }) blocks s = stream blocks s)

/-- R243: the requests of QueryDevice, issued while a burst is open, end the burst and leave ISC mode before the ID is
read, and the device is recognised iff that ID is in SUPPORTED_IDS. -/
def Obligations.QueryDeviceEndsTheSessionFirst : Prop :=
  ∀ s : State, s.params.wf = true → s.init = true → s.seq = .burstOpen →
    ∃ t, Command.queryDevice.perform s = .next t ∧ t.seq = .idle ∧ t.csa = false ∧ t.bcnt = s.bcnt ∧
      t.trace = s.trace ++ [.cs false, .delay .burstSettle] ++ cmdWire s 0 s.params.txIscDis
        ++ readWire s s.params.txIscDis.length s.params.readId ∧
      ∃ r : Bool, Command.queryDevice.conclusion t = .device (registerAt s s.params.txIscDis.length s.params.readId) r ∧
        (r = true ↔ registerAt s s.params.txIscDis.length s.params.readId ∈ s.params.supportedIds)

/-- R243, R80's CKCHECK: the requests of ProgramBlock on a block whose checksum is not the declared one put nothing on the
wire and leave SEQ and BCNT alone; on a block whose checksum it is, they are CKSUM and BURST_DATA. -/
def Obligations.ABlockWithABadChecksumIsNotWritten : Prop :=
  ∀ (s : State) (declared : Byte) (block : List Byte), s.params.wf = true → block.length < 2 ^ 32 →
    (declared ≠ cksum block → ∃ t, (Command.programBlock declared block).perform s = .next t ∧
      t.trace = s.trace ∧ t.seq = s.seq ∧ t.bcnt = s.bcnt ∧ t.tout = s.tout) ∧
    (declared = cksum block → (Command.programBlock declared block).perform s
      = issueAll [dataLine (.cksum 0) block, dataLine .burstData block] s)

/-! ## The framer (44_framer.md) -/

/-- R201: CKSUM returns the seed plus the sum of the data bytes modulo 256, in every SEQ and before INIT_CONFIG too, and
changes nothing. -/
def Obligations.CksumReturnsTheByteSum : Prop :=
  ∀ (s : State) (seed : Byte) (n : U32), Admitted (.cksum seed n) s →
    ∃ v : U32, v.toNat = (seed.toNat + (s.dataIn.map BitVec.toNat).sum) % 256 ∧
      exec (.cksum seed n) s = .next (respond .ok v s)

/-- R9, R200: the running checksum is the seed plus the bytes modulo 256; it continues over a concatenation, the order of
the bytes does not matter, and the checksum of no bytes is 0. -/
def Obligations.ChecksumRunsBlockByBlock : Prop :=
  (∀ (seed : Byte) (p : List Byte), (sum8 seed p).toNat = (seed.toNat + (p.map BitVec.toNat).sum) % 256) ∧
  (∀ a b : List Byte, cksum (a ++ b) = sum8 (cksum a) b) ∧
  (∀ (seed : Byte) (a b : List Byte), a.Perm b → sum8 seed a = sum8 seed b) ∧ cksum [] = 0x00

/-- R202, R83, R55: FRAME_TX appends to TOUT the magic, the length n + 1 low byte first, the payload unescaped and its
checksum; VALUE holds the checksum and n. It reads nothing of TIN and leaves the SPI wire alone. The one other effect is
the TX event that R11 gives each byte written; that these events stand in the same trace as the SPI and GPIO events, among
which R33 does not list them, is the model's choice (log 8). -/
def Obligations.FrameTxEmitsOneFrame : Prop :=
  ∀ (s : State) (n : U32), Admitted (.frameTx n) s → n.toNat ≤ 65534 →
    let frame := [s.params.frameMagic, BitVec.ofNat 8 ((n.toNat + 1) % 256), BitVec.ofNat 8 ((n.toNat + 1) / 256)]
      ++ s.dataIn ++ [cksum s.dataIn]
    exec (.frameTx n) s = .next (respond .ok (BitVec.ofNat 32 ((cksum s.dataIn).toNat * 65536 + n.toNat))
      { s with tout := s.tout ++ frame, trace := s.trace ++ frame.map .tx })

/-- R202: a payload longer than 65534 bytes is answered with E_ARG and nothing is emitted. -/
def Obligations.FrameTxRejectsALongPayload : Prop :=
  ∀ (s : State) (n : U32), Admitted (.frameTx n) s → 65534 < n.toNat →
    exec (.frameTx n) s = .next (respond .eArg 0 s)

/-- R203, R206: FRAME_RX of a whole frame with the right checksum: Dout is the payload, VALUE the checksum and the payload
length, exactly the frame's bytes are consumed, RXBUF holds payload and checksum from index 0 on, and every index beyond
reads as before. That bytes in time are entries of TIN is the model's form of R17 (log 4), and rxKnown is its field (log
7). -/
def Obligations.FrameRxReturnsThePayload : Prop :=
  ∀ (s : State) (maxSize : U32) (lo hi : Byte) (payload : List Byte) (rest : List Arrival),
    Admitted (.frameRx maxSize) s → maxSize.toNat ≤ s.params.rxBufSize.toNat →
    lo.toNat + 256 * hi.toNat = payload.length + 1 → payload.length + 1 ≤ maxSize.toNat →
    s.tin = inTime ([s.params.frameMagic, lo, hi] ++ payload ++ [cksum payload]) ++ rest →
    let t := respondWith .ok (BitVec.ofNat 32 ((cksum payload).toNat * 65536 + payload.length)) payload
      { s with
        tin := rest, rxbuf := s.rxbuf.writes 0 (payload ++ [cksum payload])
        rxKnown := max s.rxKnown (payload.length + 1) }
    exec (.frameRx maxSize) s = .next t ∧
      ∀ i, rxRead i t = if i < payload.length + 1 then (payload ++ [cksum payload])[i]? else rxRead i s

/-- R203, R204, R205: a frame whose last byte is not the checksum of its payload is dropped with NOFRAME after 3 + L bytes.
The list rxbuf holds the L bytes received; that the state keeps them, and gives every read of RXBUF a free value all the
same (R206, D31, U10: any value), by rxKnown and rxFresh, is the model's choice (log 7). -/
def Obligations.FrameRxDropsABadChecksum : Prop :=
  ∀ (s : State) (maxSize : U32) (lo hi k : Byte) (payload : List Byte) (rest : List Arrival),
    Admitted (.frameRx maxSize) s → maxSize.toNat ≤ s.params.rxBufSize.toNat →
    lo.toNat + 256 * hi.toNat = payload.length + 1 → payload.length + 1 ≤ maxSize.toNat → k ≠ cksum payload →
    s.tin = inTime ([s.params.frameMagic, lo, hi] ++ payload ++ [k]) ++ rest →
    exec (.frameRx maxSize) s = .next (respond .noFrame 0
      { s with
        tin := rest, rxbuf := s.rxbuf.writes 0 (payload ++ [k]), rxKnown := 0, rxFresh := s.rxFresh + 1 })

/-- R203, R204, R205: FRAME_RX without a usable head answers NOFRAME and has consumed nothing, the one byte that is not the
magic, one or two bytes at a timeout in the length, or three at a length of 0 or above maxSize. A timeout is a `late` entry
of TIN, used up by the read it stops, or the end of TIN: the model's form of R17's draw, whose TIMEOUT removes no byte (log
4). RXBUF is left as it was, and that every read of it gives a free value afterwards (R206, D31, U10: any value), by rxKnown
and rxFresh, is the model's choice (log 7). -/
def Obligations.FrameRxDropsABadHead : Prop :=
  ∀ (s : State) (maxSize : U32) (m lo hi : Byte) (tail rest : List Arrival),
    Admitted (.frameRx maxSize) s → maxSize.toNat ≤ s.params.rxBufSize.toNat →
    ((s.tin = tail ∧ TimesOut tail rest) ∨
      (m ≠ s.params.frameMagic ∧ s.tin = inTime [m] ++ rest) ∨
      (s.tin = inTime [s.params.frameMagic] ++ tail ∧ TimesOut tail rest) ∨
      (s.tin = inTime [s.params.frameMagic, lo] ++ tail ∧ TimesOut tail rest) ∨
      ((lo.toNat + 256 * hi.toNat = 0 ∨ maxSize.toNat < lo.toNat + 256 * hi.toNat) ∧
        s.tin = inTime [s.params.frameMagic, lo, hi] ++ rest)) →
    exec (.frameRx maxSize) s = .next (respond .noFrame 0
      { s with tin := rest, rxKnown := 0, rxFresh := s.rxFresh + 1 })

/-- R203, R205, R206: a timeout after j of the L body bytes answers NOFRAME; 3 + j bytes are consumed, and rxbuf holds
those j from index 0 on. The timeout is the model's form of R17's draw, a `late` entry used up or the end of TIN (log 4);
that the state keeps the j bytes and gives every read of RXBUF a free value all the same (R206, D31, U10: any value), by
rxKnown and rxFresh, is the model's choice (log 7). -/
def Obligations.FrameRxDropsAShortBody : Prop :=
  ∀ (s : State) (maxSize : U32) (lo hi : Byte) (body : List Byte) (tail rest : List Arrival),
    Admitted (.frameRx maxSize) s → maxSize.toNat ≤ s.params.rxBufSize.toNat →
    body.length < lo.toNat + 256 * hi.toNat → lo.toNat + 256 * hi.toNat ≤ maxSize.toNat →
    s.tin = inTime ([s.params.frameMagic, lo, hi] ++ body) ++ tail → TimesOut tail rest →
    exec (.frameRx maxSize) s = .next (respond .noFrame 0
      { s with tin := rest, rxbuf := s.rxbuf.writes 0 body, rxKnown := 0, rxFresh := s.rxFresh + 1 })

/-- R203: maxSize beyond RX_BUF_SIZE is E_ARG and consumes nothing. -/
def Obligations.FrameRxRejectsAnOversizedBuffer : Prop :=
  ∀ (s : State) (maxSize : U32), Admitted (.frameRx maxSize) s → s.params.rxBufSize.toNat < maxSize.toNat →
    exec (.frameRx maxSize) s = .next (respond .eArg 0 s)

/-- R51, R206: bytes written to RXBUF from index i on are read back from there, every other index reads as before, the
canonical form is kept, and no index outside the written span is added. R32, R51, R206, U10: MemRead gives a byte exactly at
the indices below RX_BUF_SIZE, and a free value at all of them after a reset and after a NOFRAME (`rxForget`); the form
of the free value is the model's choice (log 7). -/
def Obligations.BufferWritesReadBack : Prop :=
  (∀ (m : Memory) (i : Nat) (bytes : List Byte) (a : Nat),
    (m.writes i bytes).read a = (if i ≤ a ∧ a < i + bytes.length then bytes[a - i]? else m.read a) ∧
    (m.wf → (m.writes i bytes).wf) ∧
    (∀ c ∈ m.writes i bytes, (i ≤ c.1 ∧ c.1 < i + bytes.length) ∨ c ∈ m)) ∧
  (∀ (s : State) (i : Nat), (rxRead i s).isSome = true ↔ i < s.params.rxBufSize.toNat) ∧
  (∀ (s : State) (tin : List Arrival) (i : Nat), i < s.params.rxBufSize.toNat →
    rxRead i (rxForget s) = some (Config.freeRxByte (s.rxFresh + 1) i) ∧
    rxRead i (systemReset tin s) = some (Config.freeRxByte (s.rxFresh + 1) i))

/-- R208 (a) (derived there): a payload sent by FRAME_TX is what FRAME_RX returns when the emitted bytes reach TIN in
time with nothing before them, in any later state of the same instantiation. Bytes in time are entries of TIN (log 4). -/
def Obligations.FramesRoundTrip : Prop :=
  ∀ (s t u : State) (n maxSize : U32) (rest : List Arrival),
    exec (.frameTx n) s = .next t → Admitted (.frameTx n) s → n.toNat ≤ 65534 →
    u.params = s.params → u.dataIn = [] → n.toNat + 1 ≤ maxSize.toNat →
    maxSize.toNat ≤ u.params.rxBufSize.toNat → u.tin = inTime (t.tout.drop s.tout.length) ++ rest →
    ∃ v rx, exec (.frameRx maxSize) u = .next v ∧ v.tin = rest ∧
      v.log = u.log ++ [.response rx] ∧ rx.dout = s.dataIn ∧ rx.word.extractLsb' 0 8 = Code.ok.toByte

/-- R208 (b) (derived there): a frame with one payload byte changed, or its checksum byte changed, is dropped; the second
part is the frame with an empty payload, whose only such byte is the checksum. The bytes that rxbuf keeps after the NOFRAME
and the free values that RXBUF reads as (R206, D31, U10: any value) are the model's choice (log 7). -/
def Obligations.OneChangedByteIsDetected : Prop :=
  (∀ (s : State) (maxSize : U32) (lo hi a b k : Byte) (before after : List Byte) (rest : List Arrival),
    Admitted (.frameRx maxSize) s → maxSize.toNat ≤ s.params.rxBufSize.toNat →
    lo.toNat + 256 * hi.toNat = before.length + after.length + 2 →
    before.length + after.length + 2 ≤ maxSize.toNat →
    (a ≠ b ∧ k = cksum (before ++ [a] ++ after) ∨ a = b ∧ k ≠ cksum (before ++ [a] ++ after)) →
    s.tin = inTime ([s.params.frameMagic, lo, hi] ++ (before ++ [b] ++ after) ++ [k]) ++ rest →
    exec (.frameRx maxSize) s = .next (respond .noFrame 0
      { s with
        tin := rest, rxbuf := s.rxbuf.writes 0 (before ++ [b] ++ after ++ [k]), rxKnown := 0
        rxFresh := s.rxFresh + 1 })) ∧
  (∀ (s : State) (maxSize : U32) (k : Byte) (rest : List Arrival),
    Admitted (.frameRx maxSize) s → maxSize.toNat ≤ s.params.rxBufSize.toNat → 1 ≤ maxSize.toNat → k ≠ cksum [] →
    s.tin = inTime [s.params.frameMagic, 0x01, 0x00, k] ++ rest →
    exec (.frameRx maxSize) s = .next (respond .noFrame 0
      { s with tin := rest, rxbuf := s.rxbuf.writes 0 [k], rxKnown := 0, rxFresh := s.rxFresh + 1 }))

/-! ## Rules about every request -/

/-- R51, R72, R236, R277: under a well-formed instantiation every request completes: no trap, no fault, no refusal, and so
no RXBUF index out of range; and so does every step. -/
def Obligations.EveryRequestCompletes : Prop :=
  (∀ (s : State) (i : Instr), s.params.wf = true → ∃ t, exec i s = .next t) ∧
  (∀ s : State, s.params.wf = true → ∃ t, step s = .next t)

/-- R7: an instantiation that breaks one of the constraints on the parameters is refused, whatever the step or the
request. -/
def Obligations.IllFormedInstantiationIsRefused : Prop :=
  ∀ s : State,
    (s.params.readId.len.toNat < s.params.readId.off.toNat + 4 ∨
      s.params.readStatus.len.toNat < s.params.readStatus.off.toNat + 4 ∨
      s.params.readBusy.len.toNat < s.params.readBusy.off.toNat + 1 ∨
      s.params.txIscEn = [] ∨ s.params.txIscDis = [] ∨ s.params.txBurst = [] ∨
      s.params.busyMask = 0 ∨ s.params.boardTable = []) →
    step s = .refused .illFormedParameters ∧ ∀ i, exec i s = .refused .illFormedParameters

/-- R72, R21, R86: every request, accepted or rejected, produces exactly one response, whose CODE is one of R230, whose
FLAGS and SEQ fields are those after the request, whose bits 31:18 are 0; and k advances by exactly 1. The log it stands in is the model's form (log 9). -/
def Obligations.EveryRequestIsAnsweredOnce : Prop :=
  ∀ (s t : State) (w : U64) (d : List Byte), issue w d s = .next t →
    ∃ rx, t.log = s.log ++ [.response rx] ∧ t.reqIndex = s.reqIndex + 1 ∧
      (∃ c : Code, rx.word.extractLsb' 0 8 = c.toByte) ∧
      rx.word.extractLsb' 8 8 = 0#4 ++ BitVec.ofBool t.init ++ BitVec.ofBool t.flags.busy ++ BitVec.ofBool t.flags.stray
        ++ BitVec.ofBool t.flags.seqErr ∧
      rx.word.extractLsb' 16 2 = (match t.seq with
        | .idle => 0#2
        | .iscEnabled => 1#2
        | .burstOpen => 2#2
        | .burstClosed => 3#2) ∧
      rx.word.extractLsb' 18 14 = 0

/-- R231 (derived there): the code of every response to a legal word is one the table gives that request. -/
def Obligations.CodesAreThoseOfTheTable : Prop :=
  ∀ (s t : State) (i : Instr), exec i s = .next t → ∃ c ∈ codesOf i, AnsweredWith c s t

/-- R234, R73: a request answered with E_ILLEGAL, E_ARG, E_NOINIT or E_SEQ changes no state but FLAGS.SEQERR on E_SEQ, puts
nothing on the wire or the transport, and answers VALUE 0 and an empty Dout with the current FLAGS and SEQ. -/
def Obligations.RejectionsHaveNoEffect : Prop :=
  ∀ (s t : State) (w : U64) (d : List Byte) (c : Code), issue w d s = .next t → AnsweredWith c s t →
    c.isRejection = true →
    t = { s with
      flags := if c = .eSeq then { s.flags with seqErr := true } else s.flags
      log := s.log ++ [.response { word := responseWord c 0 t, dout := [] }]
      reqIndex := s.reqIndex + 1
      dataIn := [] }

/-- R25: a request that changes SEQ takes an edge of the state machine, or the edges its own rule takes one after the
other, and no other. -/
def Obligations.SeqTakesOnlyLegalEdges : Prop :=
  ∀ (s t : State) (i : Instr), exec i s = .next t → t.seq = s.seq ∨ (s.seq, t.seq) ∈ seqMoves i

/-- R22, R23, R26, R28, R32, R34, R38: what only one kind of request may change: CFG, INIT and PINDRV only INIT_CONFIG; BCNT
only a burst; RXBUF and TIN only FRAME_RX; TOUT only FRAME_TX; the parameters and the outside's pending moves none. -/
def Obligations.StateHasOnlyItsNamedWriters : Prop :=
  ∀ (s t : State) (i : Instr), exec i s = .next t →
    ((∃ b, i = .initConfig b) ∨ (t.cfg = s.cfg ∧ t.init = s.init ∧ t.pindrv = s.pindrv)) ∧
    (i = .burstBegin ∨ (∃ n, i = .burstData n) ∨ i = .sessionOpen ∨ (∃ n, i = .programDevice n) ∨ t.bcnt = s.bcnt) ∧
    ((∃ m, i = .frameRx m) ∨
      (t.rxbuf = s.rxbuf ∧ t.rxKnown = s.rxKnown ∧ t.rxFresh = s.rxFresh ∧ t.tin = s.tin)) ∧
    ((∃ n, i = .frameTx n) ∨ t.tout = s.tout) ∧
    t.params = s.params ∧ t.inputs = s.inputs

/-- R30, R31: no request clears SEQERR, STRAY or INIT; STRAY is set by BURST_DATA outside BurstOpen only; and FLAGS.BUSY is
written only by the requests that poll. -/
def Obligations.FlagsAreStickyAndHaveNamedWriters : Prop :=
  ∀ (s t : State) (i : Instr), exec i s = .next t →
    (s.flags.seqErr = true → t.flags.seqErr = true) ∧ (s.flags.stray = true → t.flags.stray = true) ∧
    (s.init = true → t.init = true) ∧
    (t.flags.stray ≠ s.flags.stray → (∃ n, i = .burstData n) ∧ s.seq ≠ .burstOpen) ∧
    (t.flags.busy ≠ s.flags.busy →
      i = .pollBusy ∨ i = .sessionOpen ∨ i = .sessionClose ∨ ∃ n, i = .programDevice n)

/-- R33, R267: a request only appends to the trace, and the framer requests append nothing to the SPI and GPIO record,
which is the trace without its TX events (log 8). -/
def Obligations.TheTraceOnlyGrows : Prop :=
  ∀ (s t : State) (i : Instr), exec i s = .next t →
    (∃ es, t.trace = s.trace ++ es) ∧
    (((∃ n, i = .frameTx n) ∨ (∃ m, i = .frameRx m) ∨ ∃ seed n, i = .cksum seed n) → wireTrace t = wireTrace s)

/-! ## The machine -/

/-- The invariant holds at reset, under every instantiation (R37). -/
def Obligations.InvariantHoldsAtReset : Prop := ∀ p : Params, SeqInv (State.resetWith p)

/-- Every step keeps the invariant, from every state that has it: requests, host bytes, idle steps and resets, between
requests and inside one. The data port, the log, the pending moves, the shared trace and the known bytes of RXBUF, of which
the invariant speaks, are the model's forms (log 7, 8, 9, 10, 14). -/
def Obligations.EveryStepKeepsTheInvariant : Prop :=
  ∀ s t : State, SeqInv s → step s = .next t → SeqInv t

/-- A step with a legal request word pending is exec of the decoded request, with the request taken off the pending moves
and its data list on the data port. R70 and R14 give requests (W, D), one at a time; that the coming moves stand in a list
of the state, of which a step takes the oldest, is the model's choice (log 10), and that D lies in the field dataIn while
the request runs is its reading of R52 (log 14). -/
def Obligations.StepRunsTheDecodedRequest : Prop :=
  ∀ (s : State) (w : U64) (d : List Byte) (rest : List Input) (i : Instr),
    s.inputs = .request w d :: rest → decode w = .ok i →
    step s = exec i { s with inputs := rest, dataIn := d }

/-- R247, R248: with nothing pending the machine idles with its state held, and bytes from the host are appended to TIN and
change nothing else. -/
def Obligations.IdleAndHostSteps : Prop :=
  ∀ (s : State) (arrivals : List Arrival) (rest : List Input), s.params.wf = true →
    (s.inputs = [] → step s = .next s) ∧
    (s.inputs = .hostSends arrivals :: rest → step s = .next { s with inputs := rest, tin := s.tin ++ arrivals })

/-- R260, R37: after a system reset INIT, SEQ, BCNT, CSA, PINDRV, PROGN, FLAGS and k have their reset values, a new trace has
started, TOUT is kept, TIN is what the reset event carries, and the log records RESET with the trace that ended; RXBUF has any value. The form of
the moves, of the log, of TIN after a reset and of RXBUF's free values is the model's choice (log 5, 7, 9, 10). -/
def Obligations.SystemResetLeavesTheResetState : Prop :=
  ∀ (s : State) (tin : List Arrival) (rest : List Input), s.params.wf = true → s.inputs = .systemReset tin :: rest →
    ∃ t, step s = .next t ∧ t.init = false ∧ t.seq = .idle ∧ t.bcnt = 0 ∧ t.csa = false ∧ t.pindrv = false ∧
      t.progn = true ∧ flagsWord t = 0x00 ∧ t.trace = [] ∧ t.reqIndex = 0 ∧ t.tout = s.tout ∧ t.tin = tin ∧
      t.log = s.log ++ [.reset s.trace] ∧ t.params = s.params ∧ t.inputs = rest ∧
      ∀ i, i < s.params.rxBufSize.toNat → rxRead i t = some (Config.freeRxByte (s.rxFresh + 1) i)

/-- R261: a reset inside a request: no response; the first events of the request, as many as the reset lets
happen, stay in the old trace and their bytes in TOUT; the state is the reset state, with nothing sent to close a burst. The
number of events n and the new TIN as parts of the move are the model's choice (log 5, 10, 13). -/
def Obligations.ResetInsideARequestKeepsWhatHappened : Prop :=
  ∀ (s u : State) (w : U64) (d : List Byte) (n : Nat) (tin : List Arrival) (rest : List Input),
    s.inputs = .resetDuring w d n tin :: rest → issue w d { s with inputs := rest } = .next u →
    ∃ t done, step s = .next t ∧ (s.trace ++ done) <+: u.trace ∧
      done.length = min n (u.trace.length - s.trace.length) ∧
      t.log = s.log ++ [.reset (s.trace ++ done)] ∧ t.tout = s.tout ++ txBytes done ∧ t.tin = tin ∧
      t.trace = [] ∧ t.seq = .idle ∧ t.init = false ∧ t.bcnt = 0 ∧ t.csa = false ∧ t.pindrv = false ∧
      t.progn = true ∧ flagsWord t = 0x00 ∧ t.reqIndex = 0 ∧ t.params = s.params ∧ t.inputs = rest

/-- R27, R28, R29: the electrical levels of the CS, CLK, MOSI and PROG pins. R28 gives CLK and MOSI a level before
INIT_CONFIG only; that CLK rests at the clock polarity of R57 once it is driven is the model's reading (log 16). -/
def Obligations.PinLevelsFollowTheState : Prop :=
  ∀ s : State,
    (s.pindrv = false → csPinLevel s = s.params.pinIdle.cs ∧ progPinLevel s = s.params.pinIdle.prog ∧
      clkPinLevel s = s.params.pinIdle.clk ∧ mosiPinLevel s = some s.params.pinIdle.mosi) ∧
    (s.pindrv = true → csPinLevel s = (if s.params.csActiveLow then !s.csa else s.csa) ∧ progPinLevel s = s.progn ∧
      clkPinLevel s = s.params.spiMode.cpol)
end

