-- ==== Sys2Proof/Laws/Controller.lean ====
section
/-!
SUPPORT. The controller's sequences: one after the other, and the request loop of 70_reset_and_hazards.md R263 poll by poll.
-/

namespace Sys2Proof.Machine

@[simp] theorem andThen_next (s : State) (f : State → Host.Outcome State Fault Refusal) : andThen (.next s) f = f s := rfl

theorem andThen_assoc (o : Host.Outcome State Fault Refusal) (f g : State → Host.Outcome State Fault Refusal) :
    andThen (andThen o f) g = andThen o fun s => andThen (f s) g := by
  cases o <;> rfl

/-- The loop has no memory but the state: it may be cut after any poll. -/
theorem requestLoop_append (d : Dispatcher) (as bs : List (List Arrival)) (s : State) :
    requestLoop d (as ++ bs) s = andThen (requestLoop d as s) (requestLoop d bs) := by
  induction as generalizing s with
  | nil => rfl
  | cons a as ih =>
    have e : requestLoop d (as ++ bs) = fun s => andThen (requestLoop d as s) (requestLoop d bs) := funext ih
    simp only [List.cons_append, requestLoop, andThen_assoc, e]

/-- A FRAME_RX that is not answered OK is polled again, and nothing else happens in between (R263 step 4). -/
theorem requestLoop_pollAgain {d : Dispatcher} {sent : List Arrival} {later : List (List Arrival)} {s t u : State}
    (h1 : serve (.hostSends sent) s = .next t) (h2 : serve (line (.frameRx d.maxSize)) t = .next u)
    (hok : lastIsOk u = false) (hr : wasReset u = false) :
    requestLoop d (sent :: later) s = requestLoop d later u := by
  simp [requestLoop, dispatchOnce, thenIfOk, rebootIfReset, h1, h2, hok, hr]

/-- A FRAME_RX that is answered OK is followed by the command its payload says, with its answer, and then by the next round
(R263 step 4, 60_exceptions.md R243). -/
theorem requestLoop_command {d : Dispatcher} {sent : List Arrival} {later : List (List Arrival)} {s t u : State}
    (h1 : serve (.hostSends sent) s = .next t) (h2 : serve (line (.frameRx d.maxSize)) t = .next u)
    (hok : lastIsOk u = true) :
    requestLoop d (sent :: later) s =
      andThen ((d.command u.log (lastDout u)).handle (d.reply u.log) u) fun v =>
        andThen (rebootIfReset d v) (requestLoop d later) := by
  simp [requestLoop, dispatchOnce, thenIfOk, h1, h2, hok]

end Sys2Proof.Machine
end

