-- ==== Sys2Proof/Laws/State.lean ====
section
/-!
SUPPORT. What each named update of State leaves in each field: one lemma per field per update, each true by unfolding,
so that no proof unfolds a record update.
-/

namespace Sys2Proof.Machine

@[simp] theorem emit_cfg (e : Event) (s : State) : (emit e s).cfg = s.cfg := rfl
@[simp] theorem emit_init (e : Event) (s : State) : (emit e s).init = s.init := rfl
@[simp] theorem emit_seq (e : Event) (s : State) : (emit e s).seq = s.seq := rfl
@[simp] theorem emit_bcnt (e : Event) (s : State) : (emit e s).bcnt = s.bcnt := rfl
@[simp] theorem emit_csa (e : Event) (s : State) : (emit e s).csa = s.csa := rfl
@[simp] theorem emit_pindrv (e : Event) (s : State) : (emit e s).pindrv = s.pindrv := rfl
@[simp] theorem emit_progn (e : Event) (s : State) : (emit e s).progn = s.progn := rfl
@[simp] theorem emit_flags (e : Event) (s : State) : (emit e s).flags = s.flags := rfl
@[simp] theorem emit_rxbuf (e : Event) (s : State) : (emit e s).rxbuf = s.rxbuf := rfl
@[simp] theorem emit_trace (e : Event) (s : State) : (emit e s).trace = s.trace ++ [e] := rfl
@[simp] theorem emit_tin (e : Event) (s : State) : (emit e s).tin = s.tin := rfl
@[simp] theorem emit_tout (e : Event) (s : State) : (emit e s).tout = s.tout := rfl
@[simp] theorem emit_reqIndex (e : Event) (s : State) : (emit e s).reqIndex = s.reqIndex := rfl
@[simp] theorem emit_dataIn (e : Event) (s : State) : (emit e s).dataIn = s.dataIn := rfl
@[simp] theorem emit_params (e : Event) (s : State) : (emit e s).params = s.params := rfl
@[simp] theorem emit_miso (e : Event) (s : State) : (emit e s).miso = s.miso := rfl
@[simp] theorem emit_misoCount (e : Event) (s : State) : (emit e s).misoCount = s.misoCount := rfl
@[simp] theorem emit_rxKnown (e : Event) (s : State) : (emit e s).rxKnown = s.rxKnown := rfl
@[simp] theorem emit_rxFresh (e : Event) (s : State) : (emit e s).rxFresh = s.rxFresh := rfl
@[simp] theorem emit_inputs (e : Event) (s : State) : (emit e s).inputs = s.inputs := rfl
@[simp] theorem emit_log (e : Event) (s : State) : (emit e s).log = s.log := rfl

@[simp] theorem csSet_cfg (a : Bool) (s : State) : (csSet a s).cfg = s.cfg := rfl
@[simp] theorem csSet_init (a : Bool) (s : State) : (csSet a s).init = s.init := rfl
@[simp] theorem csSet_seq (a : Bool) (s : State) : (csSet a s).seq = s.seq := rfl
@[simp] theorem csSet_bcnt (a : Bool) (s : State) : (csSet a s).bcnt = s.bcnt := rfl
@[simp] theorem csSet_csa (a : Bool) (s : State) : (csSet a s).csa = a := rfl
@[simp] theorem csSet_pindrv (a : Bool) (s : State) : (csSet a s).pindrv = s.pindrv := rfl
@[simp] theorem csSet_progn (a : Bool) (s : State) : (csSet a s).progn = s.progn := rfl
@[simp] theorem csSet_flags (a : Bool) (s : State) : (csSet a s).flags = s.flags := rfl
@[simp] theorem csSet_rxbuf (a : Bool) (s : State) : (csSet a s).rxbuf = s.rxbuf := rfl
@[simp] theorem csSet_trace (a : Bool) (s : State) : (csSet a s).trace = s.trace ++ [.cs a] := rfl
@[simp] theorem csSet_tin (a : Bool) (s : State) : (csSet a s).tin = s.tin := rfl
@[simp] theorem csSet_tout (a : Bool) (s : State) : (csSet a s).tout = s.tout := rfl
@[simp] theorem csSet_reqIndex (a : Bool) (s : State) : (csSet a s).reqIndex = s.reqIndex := rfl
@[simp] theorem csSet_dataIn (a : Bool) (s : State) : (csSet a s).dataIn = s.dataIn := rfl
@[simp] theorem csSet_params (a : Bool) (s : State) : (csSet a s).params = s.params := rfl
@[simp] theorem csSet_miso (a : Bool) (s : State) : (csSet a s).miso = s.miso := rfl
@[simp] theorem csSet_misoCount (a : Bool) (s : State) : (csSet a s).misoCount = s.misoCount := rfl
@[simp] theorem csSet_rxKnown (a : Bool) (s : State) : (csSet a s).rxKnown = s.rxKnown := rfl
@[simp] theorem csSet_rxFresh (a : Bool) (s : State) : (csSet a s).rxFresh = s.rxFresh := rfl
@[simp] theorem csSet_inputs (a : Bool) (s : State) : (csSet a s).inputs = s.inputs := rfl
@[simp] theorem csSet_log (a : Bool) (s : State) : (csSet a s).log = s.log := rfl

@[simp] theorem progSet_cfg (l : Bool) (s : State) : (progSet l s).cfg = s.cfg := rfl
@[simp] theorem progSet_init (l : Bool) (s : State) : (progSet l s).init = s.init := rfl
@[simp] theorem progSet_seq (l : Bool) (s : State) : (progSet l s).seq = s.seq := rfl
@[simp] theorem progSet_bcnt (l : Bool) (s : State) : (progSet l s).bcnt = s.bcnt := rfl
@[simp] theorem progSet_csa (l : Bool) (s : State) : (progSet l s).csa = s.csa := rfl
@[simp] theorem progSet_pindrv (l : Bool) (s : State) : (progSet l s).pindrv = s.pindrv := rfl
@[simp] theorem progSet_progn (l : Bool) (s : State) : (progSet l s).progn = l := rfl
@[simp] theorem progSet_flags (l : Bool) (s : State) : (progSet l s).flags = s.flags := rfl
@[simp] theorem progSet_rxbuf (l : Bool) (s : State) : (progSet l s).rxbuf = s.rxbuf := rfl
@[simp] theorem progSet_trace (l : Bool) (s : State) : (progSet l s).trace = s.trace ++ [.prog l] := rfl
@[simp] theorem progSet_tin (l : Bool) (s : State) : (progSet l s).tin = s.tin := rfl
@[simp] theorem progSet_tout (l : Bool) (s : State) : (progSet l s).tout = s.tout := rfl
@[simp] theorem progSet_reqIndex (l : Bool) (s : State) : (progSet l s).reqIndex = s.reqIndex := rfl
@[simp] theorem progSet_dataIn (l : Bool) (s : State) : (progSet l s).dataIn = s.dataIn := rfl
@[simp] theorem progSet_params (l : Bool) (s : State) : (progSet l s).params = s.params := rfl
@[simp] theorem progSet_miso (l : Bool) (s : State) : (progSet l s).miso = s.miso := rfl
@[simp] theorem progSet_misoCount (l : Bool) (s : State) : (progSet l s).misoCount = s.misoCount := rfl
@[simp] theorem progSet_rxKnown (l : Bool) (s : State) : (progSet l s).rxKnown = s.rxKnown := rfl
@[simp] theorem progSet_rxFresh (l : Bool) (s : State) : (progSet l s).rxFresh = s.rxFresh := rfl
@[simp] theorem progSet_inputs (l : Bool) (s : State) : (progSet l s).inputs = s.inputs := rfl
@[simp] theorem progSet_log (l : Bool) (s : State) : (progSet l s).log = s.log := rfl

@[simp] theorem spiInit_cfg (s : State) : (spiInit s).cfg = s.cfg := rfl
@[simp] theorem spiInit_init (s : State) : (spiInit s).init = s.init := rfl
@[simp] theorem spiInit_seq (s : State) : (spiInit s).seq = s.seq := rfl
@[simp] theorem spiInit_bcnt (s : State) : (spiInit s).bcnt = s.bcnt := rfl
@[simp] theorem spiInit_csa (s : State) : (spiInit s).csa = s.csa := rfl
@[simp] theorem spiInit_pindrv (s : State) : (spiInit s).pindrv = s.pindrv := rfl
@[simp] theorem spiInit_progn (s : State) : (spiInit s).progn = s.progn := rfl
@[simp] theorem spiInit_flags (s : State) : (spiInit s).flags = s.flags := rfl
@[simp] theorem spiInit_rxbuf (s : State) : (spiInit s).rxbuf = s.rxbuf := rfl
@[simp] theorem spiInit_trace (s : State) : (spiInit s).trace = s.trace ++ [.spiInit] := rfl
@[simp] theorem spiInit_tin (s : State) : (spiInit s).tin = s.tin := rfl
@[simp] theorem spiInit_tout (s : State) : (spiInit s).tout = s.tout := rfl
@[simp] theorem spiInit_reqIndex (s : State) : (spiInit s).reqIndex = s.reqIndex := rfl
@[simp] theorem spiInit_dataIn (s : State) : (spiInit s).dataIn = s.dataIn := rfl
@[simp] theorem spiInit_params (s : State) : (spiInit s).params = s.params := rfl
@[simp] theorem spiInit_miso (s : State) : (spiInit s).miso = s.miso := rfl
@[simp] theorem spiInit_misoCount (s : State) : (spiInit s).misoCount = s.misoCount := rfl
@[simp] theorem spiInit_rxKnown (s : State) : (spiInit s).rxKnown = s.rxKnown := rfl
@[simp] theorem spiInit_rxFresh (s : State) : (spiInit s).rxFresh = s.rxFresh := rfl
@[simp] theorem spiInit_inputs (s : State) : (spiInit s).inputs = s.inputs := rfl
@[simp] theorem spiInit_log (s : State) : (spiInit s).log = s.log := rfl

@[simp] theorem delay_cfg (d : Settle) (s : State) : (delay d s).cfg = s.cfg := rfl
@[simp] theorem delay_init (d : Settle) (s : State) : (delay d s).init = s.init := rfl
@[simp] theorem delay_seq (d : Settle) (s : State) : (delay d s).seq = s.seq := rfl
@[simp] theorem delay_bcnt (d : Settle) (s : State) : (delay d s).bcnt = s.bcnt := rfl
@[simp] theorem delay_csa (d : Settle) (s : State) : (delay d s).csa = s.csa := rfl
@[simp] theorem delay_pindrv (d : Settle) (s : State) : (delay d s).pindrv = s.pindrv := rfl
@[simp] theorem delay_progn (d : Settle) (s : State) : (delay d s).progn = s.progn := rfl
@[simp] theorem delay_flags (d : Settle) (s : State) : (delay d s).flags = s.flags := rfl
@[simp] theorem delay_rxbuf (d : Settle) (s : State) : (delay d s).rxbuf = s.rxbuf := rfl
@[simp] theorem delay_trace (d : Settle) (s : State) : (delay d s).trace = s.trace ++ [.delay d] := rfl
@[simp] theorem delay_tin (d : Settle) (s : State) : (delay d s).tin = s.tin := rfl
@[simp] theorem delay_tout (d : Settle) (s : State) : (delay d s).tout = s.tout := rfl
@[simp] theorem delay_reqIndex (d : Settle) (s : State) : (delay d s).reqIndex = s.reqIndex := rfl
@[simp] theorem delay_dataIn (d : Settle) (s : State) : (delay d s).dataIn = s.dataIn := rfl
@[simp] theorem delay_params (d : Settle) (s : State) : (delay d s).params = s.params := rfl
@[simp] theorem delay_miso (d : Settle) (s : State) : (delay d s).miso = s.miso := rfl
@[simp] theorem delay_misoCount (d : Settle) (s : State) : (delay d s).misoCount = s.misoCount := rfl
@[simp] theorem delay_rxKnown (d : Settle) (s : State) : (delay d s).rxKnown = s.rxKnown := rfl
@[simp] theorem delay_rxFresh (d : Settle) (s : State) : (delay d s).rxFresh = s.rxFresh := rfl
@[simp] theorem delay_inputs (d : Settle) (s : State) : (delay d s).inputs = s.inputs := rfl
@[simp] theorem delay_log (d : Settle) (s : State) : (delay d s).log = s.log := rfl

@[simp] theorem twrite_cfg (b : Byte) (s : State) : (twrite b s).cfg = s.cfg := rfl
@[simp] theorem twrite_init (b : Byte) (s : State) : (twrite b s).init = s.init := rfl
@[simp] theorem twrite_seq (b : Byte) (s : State) : (twrite b s).seq = s.seq := rfl
@[simp] theorem twrite_bcnt (b : Byte) (s : State) : (twrite b s).bcnt = s.bcnt := rfl
@[simp] theorem twrite_csa (b : Byte) (s : State) : (twrite b s).csa = s.csa := rfl
@[simp] theorem twrite_pindrv (b : Byte) (s : State) : (twrite b s).pindrv = s.pindrv := rfl
@[simp] theorem twrite_progn (b : Byte) (s : State) : (twrite b s).progn = s.progn := rfl
@[simp] theorem twrite_flags (b : Byte) (s : State) : (twrite b s).flags = s.flags := rfl
@[simp] theorem twrite_rxbuf (b : Byte) (s : State) : (twrite b s).rxbuf = s.rxbuf := rfl
@[simp] theorem twrite_trace (b : Byte) (s : State) : (twrite b s).trace = s.trace ++ [.tx b] := rfl
@[simp] theorem twrite_tin (b : Byte) (s : State) : (twrite b s).tin = s.tin := rfl
@[simp] theorem twrite_tout (b : Byte) (s : State) : (twrite b s).tout = s.tout ++ [b] := rfl
@[simp] theorem twrite_reqIndex (b : Byte) (s : State) : (twrite b s).reqIndex = s.reqIndex := rfl
@[simp] theorem twrite_dataIn (b : Byte) (s : State) : (twrite b s).dataIn = s.dataIn := rfl
@[simp] theorem twrite_params (b : Byte) (s : State) : (twrite b s).params = s.params := rfl
@[simp] theorem twrite_miso (b : Byte) (s : State) : (twrite b s).miso = s.miso := rfl
@[simp] theorem twrite_misoCount (b : Byte) (s : State) : (twrite b s).misoCount = s.misoCount := rfl
@[simp] theorem twrite_rxKnown (b : Byte) (s : State) : (twrite b s).rxKnown = s.rxKnown := rfl
@[simp] theorem twrite_rxFresh (b : Byte) (s : State) : (twrite b s).rxFresh = s.rxFresh := rfl
@[simp] theorem twrite_inputs (b : Byte) (s : State) : (twrite b s).inputs = s.inputs := rfl
@[simp] theorem twrite_log (b : Byte) (s : State) : (twrite b s).log = s.log := rfl

@[simp] theorem setSeqErr_cfg (s : State) : (setSeqErr s).cfg = s.cfg := rfl
@[simp] theorem setSeqErr_init (s : State) : (setSeqErr s).init = s.init := rfl
@[simp] theorem setSeqErr_seq (s : State) : (setSeqErr s).seq = s.seq := rfl
@[simp] theorem setSeqErr_bcnt (s : State) : (setSeqErr s).bcnt = s.bcnt := rfl
@[simp] theorem setSeqErr_csa (s : State) : (setSeqErr s).csa = s.csa := rfl
@[simp] theorem setSeqErr_pindrv (s : State) : (setSeqErr s).pindrv = s.pindrv := rfl
@[simp] theorem setSeqErr_progn (s : State) : (setSeqErr s).progn = s.progn := rfl
@[simp] theorem setSeqErr_flags (s : State) : (setSeqErr s).flags = { s.flags with seqErr := true } := rfl
@[simp] theorem setSeqErr_rxbuf (s : State) : (setSeqErr s).rxbuf = s.rxbuf := rfl
@[simp] theorem setSeqErr_trace (s : State) : (setSeqErr s).trace = s.trace := rfl
@[simp] theorem setSeqErr_tin (s : State) : (setSeqErr s).tin = s.tin := rfl
@[simp] theorem setSeqErr_tout (s : State) : (setSeqErr s).tout = s.tout := rfl
@[simp] theorem setSeqErr_reqIndex (s : State) : (setSeqErr s).reqIndex = s.reqIndex := rfl
@[simp] theorem setSeqErr_dataIn (s : State) : (setSeqErr s).dataIn = s.dataIn := rfl
@[simp] theorem setSeqErr_params (s : State) : (setSeqErr s).params = s.params := rfl
@[simp] theorem setSeqErr_miso (s : State) : (setSeqErr s).miso = s.miso := rfl
@[simp] theorem setSeqErr_misoCount (s : State) : (setSeqErr s).misoCount = s.misoCount := rfl
@[simp] theorem setSeqErr_rxKnown (s : State) : (setSeqErr s).rxKnown = s.rxKnown := rfl
@[simp] theorem setSeqErr_rxFresh (s : State) : (setSeqErr s).rxFresh = s.rxFresh := rfl
@[simp] theorem setSeqErr_inputs (s : State) : (setSeqErr s).inputs = s.inputs := rfl
@[simp] theorem setSeqErr_log (s : State) : (setSeqErr s).log = s.log := rfl

@[simp] theorem setStray_cfg (s : State) : (setStray s).cfg = s.cfg := rfl
@[simp] theorem setStray_init (s : State) : (setStray s).init = s.init := rfl
@[simp] theorem setStray_seq (s : State) : (setStray s).seq = s.seq := rfl
@[simp] theorem setStray_bcnt (s : State) : (setStray s).bcnt = s.bcnt := rfl
@[simp] theorem setStray_csa (s : State) : (setStray s).csa = s.csa := rfl
@[simp] theorem setStray_pindrv (s : State) : (setStray s).pindrv = s.pindrv := rfl
@[simp] theorem setStray_progn (s : State) : (setStray s).progn = s.progn := rfl
@[simp] theorem setStray_flags (s : State) : (setStray s).flags = { s.flags with stray := true } := rfl
@[simp] theorem setStray_rxbuf (s : State) : (setStray s).rxbuf = s.rxbuf := rfl
@[simp] theorem setStray_trace (s : State) : (setStray s).trace = s.trace := rfl
@[simp] theorem setStray_tin (s : State) : (setStray s).tin = s.tin := rfl
@[simp] theorem setStray_tout (s : State) : (setStray s).tout = s.tout := rfl
@[simp] theorem setStray_reqIndex (s : State) : (setStray s).reqIndex = s.reqIndex := rfl
@[simp] theorem setStray_dataIn (s : State) : (setStray s).dataIn = s.dataIn := rfl
@[simp] theorem setStray_params (s : State) : (setStray s).params = s.params := rfl
@[simp] theorem setStray_miso (s : State) : (setStray s).miso = s.miso := rfl
@[simp] theorem setStray_misoCount (s : State) : (setStray s).misoCount = s.misoCount := rfl
@[simp] theorem setStray_rxKnown (s : State) : (setStray s).rxKnown = s.rxKnown := rfl
@[simp] theorem setStray_rxFresh (s : State) : (setStray s).rxFresh = s.rxFresh := rfl
@[simp] theorem setStray_inputs (s : State) : (setStray s).inputs = s.inputs := rfl
@[simp] theorem setStray_log (s : State) : (setStray s).log = s.log := rfl

@[simp] theorem setBusy_cfg (b : Bool) (s : State) : (setBusy b s).cfg = s.cfg := rfl
@[simp] theorem setBusy_init (b : Bool) (s : State) : (setBusy b s).init = s.init := rfl
@[simp] theorem setBusy_seq (b : Bool) (s : State) : (setBusy b s).seq = s.seq := rfl
@[simp] theorem setBusy_bcnt (b : Bool) (s : State) : (setBusy b s).bcnt = s.bcnt := rfl
@[simp] theorem setBusy_csa (b : Bool) (s : State) : (setBusy b s).csa = s.csa := rfl
@[simp] theorem setBusy_pindrv (b : Bool) (s : State) : (setBusy b s).pindrv = s.pindrv := rfl
@[simp] theorem setBusy_progn (b : Bool) (s : State) : (setBusy b s).progn = s.progn := rfl
@[simp] theorem setBusy_flags (b : Bool) (s : State) : (setBusy b s).flags = { s.flags with busy := b } := rfl
@[simp] theorem setBusy_rxbuf (b : Bool) (s : State) : (setBusy b s).rxbuf = s.rxbuf := rfl
@[simp] theorem setBusy_trace (b : Bool) (s : State) : (setBusy b s).trace = s.trace := rfl
@[simp] theorem setBusy_tin (b : Bool) (s : State) : (setBusy b s).tin = s.tin := rfl
@[simp] theorem setBusy_tout (b : Bool) (s : State) : (setBusy b s).tout = s.tout := rfl
@[simp] theorem setBusy_reqIndex (b : Bool) (s : State) : (setBusy b s).reqIndex = s.reqIndex := rfl
@[simp] theorem setBusy_dataIn (b : Bool) (s : State) : (setBusy b s).dataIn = s.dataIn := rfl
@[simp] theorem setBusy_params (b : Bool) (s : State) : (setBusy b s).params = s.params := rfl
@[simp] theorem setBusy_miso (b : Bool) (s : State) : (setBusy b s).miso = s.miso := rfl
@[simp] theorem setBusy_misoCount (b : Bool) (s : State) : (setBusy b s).misoCount = s.misoCount := rfl
@[simp] theorem setBusy_rxKnown (b : Bool) (s : State) : (setBusy b s).rxKnown = s.rxKnown := rfl
@[simp] theorem setBusy_rxFresh (b : Bool) (s : State) : (setBusy b s).rxFresh = s.rxFresh := rfl
@[simp] theorem setBusy_inputs (b : Bool) (s : State) : (setBusy b s).inputs = s.inputs := rfl
@[simp] theorem setBusy_log (b : Bool) (s : State) : (setBusy b s).log = s.log := rfl

@[simp] theorem respondWith_cfg (c : Code) (v : U32) (d : List Byte) (s : State) : (respondWith c v d s).cfg = s.cfg := rfl
@[simp] theorem respondWith_init (c : Code) (v : U32) (d : List Byte) (s : State) : (respondWith c v d s).init = s.init := rfl
@[simp] theorem respondWith_seq (c : Code) (v : U32) (d : List Byte) (s : State) : (respondWith c v d s).seq = s.seq := rfl
@[simp] theorem respondWith_bcnt (c : Code) (v : U32) (d : List Byte) (s : State) : (respondWith c v d s).bcnt = s.bcnt := rfl
@[simp] theorem respondWith_csa (c : Code) (v : U32) (d : List Byte) (s : State) : (respondWith c v d s).csa = s.csa := rfl
@[simp] theorem respondWith_pindrv (c : Code) (v : U32) (d : List Byte) (s : State) : (respondWith c v d s).pindrv = s.pindrv := rfl
@[simp] theorem respondWith_progn (c : Code) (v : U32) (d : List Byte) (s : State) : (respondWith c v d s).progn = s.progn := rfl
@[simp] theorem respondWith_flags (c : Code) (v : U32) (d : List Byte) (s : State) : (respondWith c v d s).flags = s.flags := rfl
@[simp] theorem respondWith_rxbuf (c : Code) (v : U32) (d : List Byte) (s : State) : (respondWith c v d s).rxbuf = s.rxbuf := rfl
@[simp] theorem respondWith_trace (c : Code) (v : U32) (d : List Byte) (s : State) : (respondWith c v d s).trace = s.trace := rfl
@[simp] theorem respondWith_tin (c : Code) (v : U32) (d : List Byte) (s : State) : (respondWith c v d s).tin = s.tin := rfl
@[simp] theorem respondWith_tout (c : Code) (v : U32) (d : List Byte) (s : State) : (respondWith c v d s).tout = s.tout := rfl
@[simp] theorem respondWith_reqIndex (c : Code) (v : U32) (d : List Byte) (s : State) : (respondWith c v d s).reqIndex = s.reqIndex + 1 := rfl
@[simp] theorem respondWith_dataIn (c : Code) (v : U32) (d : List Byte) (s : State) : (respondWith c v d s).dataIn = [] := rfl
@[simp] theorem respondWith_params (c : Code) (v : U32) (d : List Byte) (s : State) : (respondWith c v d s).params = s.params := rfl
@[simp] theorem respondWith_miso (c : Code) (v : U32) (d : List Byte) (s : State) : (respondWith c v d s).miso = s.miso := rfl
@[simp] theorem respondWith_misoCount (c : Code) (v : U32) (d : List Byte) (s : State) : (respondWith c v d s).misoCount = s.misoCount := rfl
@[simp] theorem respondWith_rxKnown (c : Code) (v : U32) (d : List Byte) (s : State) : (respondWith c v d s).rxKnown = s.rxKnown := rfl
@[simp] theorem respondWith_rxFresh (c : Code) (v : U32) (d : List Byte) (s : State) : (respondWith c v d s).rxFresh = s.rxFresh := rfl
@[simp] theorem respondWith_inputs (c : Code) (v : U32) (d : List Byte) (s : State) : (respondWith c v d s).inputs = s.inputs := rfl
@[simp] theorem respondWith_log (c : Code) (v : U32) (d : List Byte) (s : State) : (respondWith c v d s).log = s.log ++ [.response { word := responseWord c v s, dout := d }] := rfl

@[simp] theorem respond_cfg (c : Code) (v : U32) (s : State) : (respond c v s).cfg = s.cfg := rfl
@[simp] theorem respond_init (c : Code) (v : U32) (s : State) : (respond c v s).init = s.init := rfl
@[simp] theorem respond_seq (c : Code) (v : U32) (s : State) : (respond c v s).seq = s.seq := rfl
@[simp] theorem respond_bcnt (c : Code) (v : U32) (s : State) : (respond c v s).bcnt = s.bcnt := rfl
@[simp] theorem respond_csa (c : Code) (v : U32) (s : State) : (respond c v s).csa = s.csa := rfl
@[simp] theorem respond_pindrv (c : Code) (v : U32) (s : State) : (respond c v s).pindrv = s.pindrv := rfl
@[simp] theorem respond_progn (c : Code) (v : U32) (s : State) : (respond c v s).progn = s.progn := rfl
@[simp] theorem respond_flags (c : Code) (v : U32) (s : State) : (respond c v s).flags = s.flags := rfl
@[simp] theorem respond_rxbuf (c : Code) (v : U32) (s : State) : (respond c v s).rxbuf = s.rxbuf := rfl
@[simp] theorem respond_trace (c : Code) (v : U32) (s : State) : (respond c v s).trace = s.trace := rfl
@[simp] theorem respond_tin (c : Code) (v : U32) (s : State) : (respond c v s).tin = s.tin := rfl
@[simp] theorem respond_tout (c : Code) (v : U32) (s : State) : (respond c v s).tout = s.tout := rfl
@[simp] theorem respond_reqIndex (c : Code) (v : U32) (s : State) : (respond c v s).reqIndex = s.reqIndex + 1 := rfl
@[simp] theorem respond_dataIn (c : Code) (v : U32) (s : State) : (respond c v s).dataIn = [] := rfl
@[simp] theorem respond_params (c : Code) (v : U32) (s : State) : (respond c v s).params = s.params := rfl
@[simp] theorem respond_miso (c : Code) (v : U32) (s : State) : (respond c v s).miso = s.miso := rfl
@[simp] theorem respond_misoCount (c : Code) (v : U32) (s : State) : (respond c v s).misoCount = s.misoCount := rfl
@[simp] theorem respond_rxKnown (c : Code) (v : U32) (s : State) : (respond c v s).rxKnown = s.rxKnown := rfl
@[simp] theorem respond_rxFresh (c : Code) (v : U32) (s : State) : (respond c v s).rxFresh = s.rxFresh := rfl
@[simp] theorem respond_inputs (c : Code) (v : U32) (s : State) : (respond c v s).inputs = s.inputs := rfl
@[simp] theorem respond_log (c : Code) (v : U32) (s : State) : (respond c v s).log = s.log ++ [.response { word := responseWord c v s, dout := [] }] := rfl

@[simp] theorem rejectSeq_cfg (s : State) : (rejectSeq s).cfg = s.cfg := rfl
@[simp] theorem rejectSeq_init (s : State) : (rejectSeq s).init = s.init := rfl
@[simp] theorem rejectSeq_seq (s : State) : (rejectSeq s).seq = s.seq := rfl
@[simp] theorem rejectSeq_bcnt (s : State) : (rejectSeq s).bcnt = s.bcnt := rfl
@[simp] theorem rejectSeq_csa (s : State) : (rejectSeq s).csa = s.csa := rfl
@[simp] theorem rejectSeq_pindrv (s : State) : (rejectSeq s).pindrv = s.pindrv := rfl
@[simp] theorem rejectSeq_progn (s : State) : (rejectSeq s).progn = s.progn := rfl
@[simp] theorem rejectSeq_flags (s : State) : (rejectSeq s).flags = { s.flags with seqErr := true } := rfl
@[simp] theorem rejectSeq_rxbuf (s : State) : (rejectSeq s).rxbuf = s.rxbuf := rfl
@[simp] theorem rejectSeq_trace (s : State) : (rejectSeq s).trace = s.trace := rfl
@[simp] theorem rejectSeq_tin (s : State) : (rejectSeq s).tin = s.tin := rfl
@[simp] theorem rejectSeq_tout (s : State) : (rejectSeq s).tout = s.tout := rfl
@[simp] theorem rejectSeq_reqIndex (s : State) : (rejectSeq s).reqIndex = s.reqIndex + 1 := rfl
@[simp] theorem rejectSeq_dataIn (s : State) : (rejectSeq s).dataIn = [] := rfl
@[simp] theorem rejectSeq_params (s : State) : (rejectSeq s).params = s.params := rfl
@[simp] theorem rejectSeq_miso (s : State) : (rejectSeq s).miso = s.miso := rfl
@[simp] theorem rejectSeq_misoCount (s : State) : (rejectSeq s).misoCount = s.misoCount := rfl
@[simp] theorem rejectSeq_rxKnown (s : State) : (rejectSeq s).rxKnown = s.rxKnown := rfl
@[simp] theorem rejectSeq_rxFresh (s : State) : (rejectSeq s).rxFresh = s.rxFresh := rfl
@[simp] theorem rejectSeq_inputs (s : State) : (rejectSeq s).inputs = s.inputs := rfl
@[simp] theorem rejectSeq_log (s : State) : (rejectSeq s).log = s.log ++ [.response { word := responseWord .eSeq 0 (setSeqErr s), dout := [] }] := rfl

@[simp] theorem afterDraws_cfg (n : Nat) (s : State) : (afterDraws n s).cfg = s.cfg := rfl
@[simp] theorem afterDraws_init (n : Nat) (s : State) : (afterDraws n s).init = s.init := rfl
@[simp] theorem afterDraws_seq (n : Nat) (s : State) : (afterDraws n s).seq = s.seq := rfl
@[simp] theorem afterDraws_bcnt (n : Nat) (s : State) : (afterDraws n s).bcnt = s.bcnt := rfl
@[simp] theorem afterDraws_csa (n : Nat) (s : State) : (afterDraws n s).csa = s.csa := rfl
@[simp] theorem afterDraws_pindrv (n : Nat) (s : State) : (afterDraws n s).pindrv = s.pindrv := rfl
@[simp] theorem afterDraws_progn (n : Nat) (s : State) : (afterDraws n s).progn = s.progn := rfl
@[simp] theorem afterDraws_flags (n : Nat) (s : State) : (afterDraws n s).flags = s.flags := rfl
@[simp] theorem afterDraws_rxbuf (n : Nat) (s : State) : (afterDraws n s).rxbuf = s.rxbuf := rfl
@[simp] theorem afterDraws_trace (n : Nat) (s : State) : (afterDraws n s).trace = s.trace := rfl
@[simp] theorem afterDraws_tin (n : Nat) (s : State) : (afterDraws n s).tin = s.tin := rfl
@[simp] theorem afterDraws_tout (n : Nat) (s : State) : (afterDraws n s).tout = s.tout := rfl
@[simp] theorem afterDraws_reqIndex (n : Nat) (s : State) : (afterDraws n s).reqIndex = s.reqIndex := rfl
@[simp] theorem afterDraws_dataIn (n : Nat) (s : State) : (afterDraws n s).dataIn = s.dataIn := rfl
@[simp] theorem afterDraws_params (n : Nat) (s : State) : (afterDraws n s).params = s.params := rfl
@[simp] theorem afterDraws_miso (n : Nat) (s : State) : (afterDraws n s).miso = s.miso.drop n := rfl
@[simp] theorem afterDraws_misoCount (n : Nat) (s : State) : (afterDraws n s).misoCount = s.misoCount + (n - s.miso.length) := rfl
@[simp] theorem afterDraws_rxKnown (n : Nat) (s : State) : (afterDraws n s).rxKnown = s.rxKnown := rfl
@[simp] theorem afterDraws_rxFresh (n : Nat) (s : State) : (afterDraws n s).rxFresh = s.rxFresh := rfl
@[simp] theorem afterDraws_inputs (n : Nat) (s : State) : (afterDraws n s).inputs = s.inputs := rfl
@[simp] theorem afterDraws_log (n : Nat) (s : State) : (afterDraws n s).log = s.log := rfl

@[simp] theorem rxForget_cfg (s : State) : (rxForget s).cfg = s.cfg := rfl
@[simp] theorem rxForget_init (s : State) : (rxForget s).init = s.init := rfl
@[simp] theorem rxForget_seq (s : State) : (rxForget s).seq = s.seq := rfl
@[simp] theorem rxForget_bcnt (s : State) : (rxForget s).bcnt = s.bcnt := rfl
@[simp] theorem rxForget_csa (s : State) : (rxForget s).csa = s.csa := rfl
@[simp] theorem rxForget_pindrv (s : State) : (rxForget s).pindrv = s.pindrv := rfl
@[simp] theorem rxForget_progn (s : State) : (rxForget s).progn = s.progn := rfl
@[simp] theorem rxForget_flags (s : State) : (rxForget s).flags = s.flags := rfl
@[simp] theorem rxForget_rxbuf (s : State) : (rxForget s).rxbuf = s.rxbuf := rfl
@[simp] theorem rxForget_trace (s : State) : (rxForget s).trace = s.trace := rfl
@[simp] theorem rxForget_tin (s : State) : (rxForget s).tin = s.tin := rfl
@[simp] theorem rxForget_tout (s : State) : (rxForget s).tout = s.tout := rfl
@[simp] theorem rxForget_reqIndex (s : State) : (rxForget s).reqIndex = s.reqIndex := rfl
@[simp] theorem rxForget_dataIn (s : State) : (rxForget s).dataIn = s.dataIn := rfl
@[simp] theorem rxForget_params (s : State) : (rxForget s).params = s.params := rfl
@[simp] theorem rxForget_miso (s : State) : (rxForget s).miso = s.miso := rfl
@[simp] theorem rxForget_misoCount (s : State) : (rxForget s).misoCount = s.misoCount := rfl
@[simp] theorem rxForget_inputs (s : State) : (rxForget s).inputs = s.inputs := rfl
@[simp] theorem rxForget_log (s : State) : (rxForget s).log = s.log := rfl
@[simp] theorem rxForget_rxKnown (s : State) : (rxForget s).rxKnown = 0 := rfl
@[simp] theorem rxForget_rxFresh (s : State) : (rxForget s).rxFresh = s.rxFresh + 1 := rfl

end Sys2Proof.Machine
end

