-- ==== Sys2Proof/Laws/Memory.lean ====
section
/-!
SUPPORT. The receive buffer: a read after a write gives the value written, a write leaves every other index alone, and
every operation keeps the canonical form and the index range (20_memory.md R51).
-/

namespace Sys2Proof.Machine

theorem Memory.read_write_same (m : Memory) (a : Nat) (v : Byte) : (m.write a v).read a = some v := by
  induction m with
  | nil => simp [Memory.write, Memory.read]
  | cons c m ih =>
    obtain ⟨b, w⟩ := c
    simp only [Memory.write]
    split
    · simp [Memory.read]
    · split
      · simp [Memory.read]
      · simp [Memory.read, *]

theorem Memory.read_write_other (m : Memory) (a b : Nat) (v : Byte) (h : b ≠ a) :
    (m.write a v).read b = m.read b := by
  induction m with
  | nil => simp [Memory.write, Memory.read, h]
  | cons c m ih =>
    obtain ⟨x, w⟩ := c
    simp only [Memory.write]
    split
    · simp [Memory.read, h]
    · split
      next e => subst e; simp [Memory.read, h]
      next => simp [Memory.read, ih]

theorem Memory.mem_write (m : Memory) (a : Nat) (v : Byte) {c : Host.Cell} (h : c ∈ m.write a v) :
    c = (a, v) ∨ c ∈ m := by
  induction m with
  | nil => simpa [Memory.write] using h
  | cons d m ih =>
    obtain ⟨x, w⟩ := d
    simp only [Memory.write] at h
    split at h
    · simpa using h
    · split at h
      · simp only [List.mem_cons] at h ⊢
        tauto
      · simp only [List.mem_cons] at h ⊢
        rcases h with h | h
        · exact .inr (.inl h)
        · rcases ih h with h | h
          · exact .inl h
          · exact .inr (.inr h)

/-- A write keeps the canonical form. -/
theorem Memory.write_wf (m : Memory) (a : Nat) (v : Byte) (h : m.wf) : (m.write a v).wf := by
  induction m with
  | nil => simp [Memory.write, Memory.wf]
  | cons c m ih =>
    obtain ⟨x, w⟩ := c
    simp only [Memory.wf, List.pairwise_cons] at h ih ⊢
    simp only [Memory.write]
    split
    next hax =>
      simp only [List.pairwise_cons, List.mem_cons, forall_eq_or_imp]
      exact ⟨⟨hax, fun y hy => lt_trans hax (h.1 y hy)⟩, h.1, h.2⟩
    next hax =>
      split
      next e => subst e; simpa [List.pairwise_cons] using h
      next e =>
        simp only [List.pairwise_cons]
        refine ⟨fun y hy => ?_, ih h.2⟩
        rcases Memory.mem_write m a v hy with rfl | hy
        · show x < a; omega
        · exact h.1 y hy

theorem Memory.writes_wf (m : Memory) (i : Nat) (vs : List Byte) (h : m.wf) : (m.writes i vs).wf := by
  induction vs generalizing m i with
  | nil => exact h
  | cons v vs ih => exact ih _ _ (Memory.write_wf m i v h)

theorem Memory.mem_writes (m : Memory) (i : Nat) (vs : List Byte) {c : Host.Cell} (h : c ∈ m.writes i vs) :
    (i ≤ c.1 ∧ c.1 < i + vs.length) ∨ c ∈ m := by
  induction vs generalizing m i with
  | nil => exact .inr h
  | cons v vs ih =>
    rcases ih _ _ h with h | h
    · left; simp only [List.length_cons]; omega
    · rcases Memory.mem_write _ _ _ h with rfl | h
      · left; simp
      · exact .inr h

/-- What a run of writes leaves: its bytes at its indices, everything else as before (R206). -/
theorem Memory.read_writes (m : Memory) (i : Nat) (vs : List Byte) (a : Nat) :
    (m.writes i vs).read a = if i ≤ a ∧ a < i + vs.length then vs[a - i]? else m.read a := by
  induction vs generalizing m i with
  | nil => simp [Memory.writes]
  | cons v vs ih =>
    simp only [Memory.writes, ih, List.length_cons]
    by_cases h1 : i + 1 ≤ a ∧ a < i + 1 + vs.length
    · rw [if_pos h1, if_pos (by omega), show a - i = (a - (i + 1)) + 1 by omega, List.getElem?_cons_succ]
    · rw [if_neg h1]
      by_cases h2 : a = i
      · subst h2; simp [Memory.read_write_same]
      · rw [Memory.read_write_other _ _ _ _ h2, if_neg (by omega)]

theorem reset_memory_wf (p : Params) : (State.resetWith p).rxbuf.wf := List.Pairwise.nil

/-- MemWrite keeps the canonical form (R51). -/
theorem rxWrite_wf {i : Nat} {v : Byte} {s t : State} (h : rxWrite i v s = some t) (hw : s.rxbuf.wf) : t.rxbuf.wf := by
  simp only [rxWrite] at h
  split at h
  · cases h; exact Memory.write_wf _ _ _ hw
  · cases h

/-- A byte with a known value reads as the one listed. -/
theorem rxRead_known {i : Nat} {v : Byte} {s : State} (hr : i < s.params.rxBufSize.toNat) (hk : i < s.rxKnown)
    (h : s.rxbuf.read i = some v) : rxRead i s = some v := by
  simp [rxRead, rxByte, hr, hk, h]

/-- A byte without one reads as a free value. -/
theorem rxRead_free {i : Nat} {s : State} (hr : i < s.params.rxBufSize.toNat) (hk : s.rxKnown ≤ i) :
    rxRead i s = some (Config.freeRxByte s.rxFresh i) := by
  simp [rxRead, rxByte, hr, show ¬ i < s.rxKnown by omega]

/-- Reading back what a run of writes has left (R203). -/
theorem rxReads_eq (vs : List Byte) (i : Nat) (s : State) (hr : i + vs.length ≤ s.params.rxBufSize.toNat)
    (hk : i + vs.length ≤ s.rxKnown) (h : ∀ j, j < vs.length → s.rxbuf.read (i + j) = vs[j]?) :
    rxReads vs.length i s = some vs := by
  induction vs generalizing i with
  | nil => rfl
  | cons v vs ih =>
    simp only [List.length_cons] at hr hk h ⊢
    have hi : rxRead i s = some v := rxRead_known (by omega) (by omega) (h 0 (by omega))
    have hrest := ih (i + 1) (by omega) (by omega) fun j hj => by
      have := h (j + 1) (by omega)
      rwa [List.getElem?_cons_succ, ← Nat.add_assoc, Nat.add_right_comm] at this
    simp only [rxReads, hi, hrest]

/-- One round of the body loop: the byte goes to its index (R203). -/
theorem rxBody_step (v : Byte) (count i : Nat) (s : State) (tin : List Arrival) (ht : s.tin = .byte v :: tin)
    (hr : i < s.params.rxBufSize.toNat) :
    rxBody (count + 1) i s
      = rxBody count (i + 1)
          { s with tin := tin, rxbuf := s.rxbuf.write i v, rxKnown := max s.rxKnown (i + 1) } := by
  have h1 : tread .byte s = (some v, { s with tin := tin }) := by
    simp only [tread, ht]
  have h2 : rxWrite i v { s with tin := tin }
      = some { s with tin := tin, rxbuf := s.rxbuf.write i v, rxKnown := max s.rxKnown (i + 1) } := by
    simp only [rxWrite, if_pos hr]
  simp only [rxBody, h1, h2]

/-- The body loop when every byte arrives in time (R203). -/
theorem rxBody_complete (vs : List Byte) (i : Nat) (s : State) (rest : List Arrival)
    (ht : s.tin = inTime vs ++ rest) (hr : i + vs.length ≤ s.params.rxBufSize.toNat) (hk : i ≤ s.rxKnown) :
    rxBody vs.length i s = .complete
      { s with tin := rest, rxbuf := s.rxbuf.writes i vs, rxKnown := max s.rxKnown (i + vs.length) } := by
  induction vs generalizing i s with
  | nil =>
    simp only [inTime, List.map_nil, List.nil_append] at ht
    subst ht
    simp [rxBody, Memory.writes, Nat.max_eq_left hk]
  | cons v vs ih =>
    simp only [List.length_cons] at hr ⊢
    rw [rxBody_step v _ i s (inTime vs ++ rest) (by simpa [inTime] using ht) (by omega),
      ih (i + 1) _ rfl (by show i + 1 + vs.length ≤ s.params.rxBufSize.toNat; omega)
        (by show i + 1 ≤ max s.rxKnown (i + 1); omega)]
    simp only [Memory.writes, Nat.max_assoc, show max (i + 1) (i + 1 + vs.length) = i + (vs.length + 1) by omega]

/-- The body loop when a read times out after the bytes `vs` (R203, R205). -/
theorem rxBody_timedOut (vs : List Byte) (count i : Nat) (s : State) (tail rest : List Arrival)
    (ht : s.tin = inTime vs ++ tail) (hto : TimesOut tail rest) (hc : vs.length < count)
    (hr : i + count ≤ s.params.rxBufSize.toNat) (hk : i ≤ s.rxKnown) :
    rxBody count i s = .timedOut
      { s with tin := rest, rxbuf := s.rxbuf.writes i vs, rxKnown := max s.rxKnown (i + vs.length) } := by
  obtain ⟨n, rfl⟩ : ∃ n, count = n + 1 := ⟨count - 1, by omega⟩
  induction vs generalizing i s n with
  | nil =>
    simp only [inTime, List.map_nil, List.nil_append] at ht
    have h1 : tread .byte s = (none, { s with tin := rest }) := by
      rcases hto with ⟨h, h'⟩ | h
      · subst h h'; simp only [tread, ht]; rw [← ht]
      · subst h; simp only [tread, ht]
    simp [rxBody, h1, Memory.writes, Nat.max_eq_left hk]
  | cons v vs ih =>
    simp only [List.length_cons] at hc ⊢
    obtain ⟨m, rfl⟩ : ∃ m, n = m + 1 := ⟨n - 1, by omega⟩
    rw [rxBody_step v _ i s (inTime vs ++ tail) (by simpa [inTime] using ht) (by omega),
      ih (i + 1) _ rfl (by show i + 1 ≤ max s.rxKnown (i + 1); omega) m (by omega)
        (by show i + 1 + (m + 1) ≤ s.params.rxBufSize.toNat; omega)]
    simp only [Memory.writes, Nat.max_assoc, show max (i + 1) (i + 1 + vs.length) = i + (vs.length + 1) by omega]

/-- Every stream either delivers `count` bytes in time or times out before. -/
theorem tin_cases (count : Nat) (tin : List Arrival) :
    (∃ vs rest, vs.length = count ∧ tin = inTime vs ++ rest) ∨
      (∃ vs tail rest, vs.length < count ∧ tin = inTime vs ++ tail ∧ TimesOut tail rest) := by
  induction count generalizing tin with
  | zero => exact .inl ⟨[], tin, rfl, rfl⟩
  | succ n ih =>
    match tin with
    | [] => exact .inr ⟨[], [], [], by simp, rfl, .inl ⟨rfl, rfl⟩⟩
    | .late :: rest => exact .inr ⟨[], .late :: rest, rest, by simp, rfl, .inr rfl⟩
    | .byte v :: tin' =>
      rcases ih tin' with ⟨vs, rest, hl, h⟩ | ⟨vs, tail, rest, hl, h, ho⟩
      · exact .inl ⟨v :: vs, rest, by simp [hl], by simp [inTime, h]⟩
      · exact .inr ⟨v :: vs, tail, rest, by simp [hl], by simp [inTime, h], ho⟩

end Sys2Proof.Machine
end

