-- ==== Sys2Proof/Laws/Framer.lean ====
section
/-!
SUPPORT. FRAME_RX before its body loop: the length field as a number, the head of a frame that arrives in time, and VALUE
as a number (44_framer.md R203, 30_encoding.md R73).
-/

namespace Sys2Proof.Machine

theorem le16_toNat (lo hi : Byte) : (le16 lo hi).toNat = lo.toNat + 256 * hi.toNat := by
  rw [le16, BitVec.toNat_append, ← Nat.shiftLeft_add_eq_or_of_lt lo.isLt, Nat.shiftLeft_eq]
  omega

/-- VALUE of a frame whose payload length fits its field. -/
theorem frameValue_ofNat (k : Byte) (n : Nat) (h : n < 65536) :
    frameValue k (BitVec.ofNat 16 n) = BitVec.ofNat 32 (k.toNat * 65536 + n) := by
  apply BitVec.eq_of_toNat_eq
  have hk := k.isLt
  rw [frameValue, BitVec.toNat_append, BitVec.toNat_append, BitVec.toNat_ofNat, BitVec.toNat_ofNat, BitVec.toNat_ofNat,
    Nat.mod_eq_of_lt h, ← Nat.shiftLeft_add_eq_or_of_lt h, ← Nat.shiftLeft_add_eq_or_of_lt hk]
  simp only [Nat.shiftLeft_eq]
  omega

/-- The head of a frame that arrives in time: three bytes are consumed (R205). -/
theorem rxHead_whole (s : State) (lo hi : Byte) (rest : List Arrival)
    (h : s.tin = inTime [s.params.frameMagic, lo, hi] ++ rest) :
    rxHead s = (some (le16 lo hi), { s with tin := rest }) := by
  simp only [inTime, List.map_cons, List.map_nil, List.cons_append, List.nil_append] at h
  simp [rxHead, rxLength, tread, h]

end Sys2Proof.Machine
end

