-- ==== Sys2Proof/Laws/Ops.lean ====
section
/-!
SUPPORT. One lemma per shared operation that says everything it does: the MISO draws, the transfers, the SPI procedures,
the transport writes. A proof about a request cites these and unfolds none of the operations.
-/

namespace Sys2Proof.Machine

/-! ## Draws -/

/-- Using up draws shifts the coming ones. -/
theorem drawAt_drop (miso : List Byte) (count n : Nat) :
    drawAt (miso.drop n) (count + (n - miso.length)) = fun i => drawAt miso count (n + i) := by
  funext i
  unfold drawAt
  by_cases h : n + i < miso.length
  · simp [List.getD_eq_getElem?_getD, h, show i < miso.length - n by omega]
  · simp only [List.length_drop, h, show ¬ i < miso.length - n by omega, if_false]
    congr 1
    omega

theorem misoAt_eq (s : State) : misoAt s = drawAt s.miso s.misoCount := rfl

theorem misoAt_afterDraws (n : Nat) (s : State) : misoAt (afterDraws n s) = fun i => misoAt s (n + i) := by
  simp only [misoAt_eq, afterDraws_miso, afterDraws_misoCount, drawAt_drop]

/-- Free draws used up by two runs of transfers one after the other. -/
theorem freeDraws_add (c m n len : Nat) : c + (m - len) + (n - (len - m)) = c + (m + n - len) := by omega

theorem afterDraws_afterDraws (m n : Nat) (s : State) : afterDraws m (afterDraws n s) = afterDraws (n + m) s := by
  simp [afterDraws, freeDraws_add]

@[simp] theorem afterDraws_zero (s : State) : afterDraws 0 s = s := by
  simp [afterDraws]

theorem nextMiso_eq (s : State) : nextMiso s = misoAt s 0 := by
  unfold nextMiso misoAt drawAt
  cases s.miso <;> simp

theorem takeMiso_eq (s : State) : takeMiso s = afterDraws 1 s := by
  unfold takeMiso afterDraws
  split
  next h => simp [h]
  next h => simp [h]

theorem takeMisos_eq (n : Nat) (s : State) : takeMisos n s = afterDraws n s := by
  induction n generalizing s with
  | zero => simp [takeMisos]
  | succ n ih => rw [takeMisos, takeMiso_eq, ih, afterDraws_afterDraws, Nat.add_comm]

theorem xferEvents_shift (cs : Bool) (miso : Nat → Byte) (n k : Nat) (ms : List Byte) :
    xferEvents cs (fun i => miso (n + i)) k ms = xferEvents cs miso (n + k) ms := by
  induction ms generalizing k with
  | nil => rfl
  | cons m ms ih => simp [xferEvents, ih, Nat.add_assoc]

theorem xferEvents_append (cs : Bool) (miso : Nat → Byte) (k : Nat) (as bs : List Byte) :
    xferEvents cs miso k (as ++ bs) = xferEvents cs miso k as ++ xferEvents cs miso (k + as.length) bs := by
  induction as generalizing k with
  | nil => simp [xferEvents]
  | cons a as ih => simp [xferEvents, ih, Nat.add_assoc, Nat.add_comm 1]

/-- Coming MISO bytes as a list: `n` of them, the first `k` transfers ahead. -/
def misoBytes (miso : Nat → Byte) (k n : Nat) : List Byte := (List.range n).map fun i => miso (k + i)

theorem misoBytes_succ (miso : Nat → Byte) (k n : Nat) :
    misoBytes miso k (n + 1) = miso k :: misoBytes miso (k + 1) n := by
  unfold misoBytes
  rw [List.range_succ_eq_map]
  simp [Function.comp_def, Nat.add_assoc, Nat.add_comm 1]

theorem misoBytes_shift (miso : Nat → Byte) (n k c : Nat) :
    misoBytes (fun i => miso (n + i)) k c = misoBytes miso (n + k) c := by
  simp [misoBytes, Nat.add_assoc]

theorem byteAt_misoBytes (miso : Nat → Byte) (k n i : Nat) (h : i < n) :
    byteAt (misoBytes miso k n) i = miso (k + i) := by
  simp [byteAt, misoBytes, List.getD_eq_getElem?_getD, h]

/-! ## Transfers -/

/-- Everything a run of transfers does. -/
theorem spiXfers_eq (ms : List Byte) (s : State) :
    spiXfers ms s =
      (misoBytes (misoAt s) 0 ms.length,
        { afterDraws ms.length s with trace := s.trace ++ xferEvents s.csa (misoAt s) 0 ms }) := by
  induction ms generalizing s with
  | nil => simp [spiXfers, misoBytes, xferEvents]
  | cons m ms ih =>
    have hm : misoAt (spiXfer m s).2 = fun i => misoAt s (1 + i) := by
      rw [← misoAt_afterDraws, ← takeMiso_eq]; rfl
    have hs : (spiXfer m s).2 = { afterDraws 1 s with trace := s.trace ++ [.xfer s.csa m (misoAt s 0)] } := by
      simp only [spiXfer, takeMiso_eq, nextMiso_eq]; rfl
    have hr : (spiXfer m s).1 = misoAt s 0 := nextMiso_eq s
    simp only [spiXfers, ih, hm, misoBytes_shift, xferEvents_shift, hr, List.length_cons, misoBytes_succ]
    refine Prod.ext rfl ?_
    rw [hs, Nat.add_comm ms.length, ← afterDraws_afterDraws]
    simp [afterDraws, xferEvents]

/-! ## SPI procedures -/

/-- Everything a read transaction does (R100, R81). -/
theorem rdcmd_eq (c : ReadCmd) (s : State) :
    rdcmd c s =
      (misoBytes (misoAt s) 1 c.len.toNat,
        { afterDraws (readLength c) s with csa := false, trace := s.trace ++ readWire s 0 c }) := by
  have h : ∀ m : Byte, ∀ u : State, spiXfers [m] u = ([(spiXfer m u).1], (spiXfer m u).2) := fun _ _ => rfl
  have e : ∀ (m : Byte) (ms : List Byte) (u : State),
      (spiXfers (m :: ms) u).2 = (spiXfers ms (spiXfer m u).2).2 ∧
        (spiXfers (m :: ms) u).1 = (spiXfer m u).1 :: (spiXfers ms (spiXfer m u).2).1 := fun _ _ _ => ⟨rfl, rfl⟩
  have e1 := e c.cmd (List.replicate c.len.toNat s.params.fill) (csSet true s)
  have hd : misoAt (csSet true s) = misoAt s := rfl
  simp only [spiXfers_eq (_ :: _), hd, List.length_cons, misoBytes_succ, List.length_replicate] at e1
  have hp : (spiXfer c.cmd (csSet true s)).2.params = s.params := by
    simp [spiXfer, takeMiso_eq]
  simp only [rdcmd]
  refine Prod.ext ?_ ?_
  · simpa using (List.cons.inj e1.2).2.symm
  · simp only
    rw [← e1.1, readWire, readLength, Nat.add_comm 1]
    simp [csSet, emit, afterDraws]

/-- Everything a command transaction does (R130, R82). -/
theorem cmdtx_eq (t : List Byte) (s : State) :
    cmdtx t s =
      { afterDraws t.length s with csa := false, trace := s.trace ++ cmdWire s 0 t } := by
  have hd : misoAt (csSet true s) = misoAt s := rfl
  simp only [cmdtx, spiXfers_eq, hd, cmdWire]
  simp [csSet, emit, afterDraws]

theorem iscEnable_eq (s : State) :
    iscEnable s =
      { afterDraws s.params.txIscEn.length s with
        csa := false, seq := .iscEnabled, trace := s.trace ++ cmdWire s 0 s.params.txIscEn } := by
  simp [iscEnable, cmdtx_eq]

theorem iscDisable_eq (s : State) :
    iscDisable s =
      { afterDraws s.params.txIscDis.length s with
        csa := false, seq := .idle, trace := s.trace ++ cmdWire s 0 s.params.txIscDis } := by
  simp [iscDisable, cmdtx_eq]

theorem burstBegin_eq (s : State) :
    burstBegin s =
      { afterDraws s.params.txBurst.length s with
        csa := true, seq := .burstOpen, bcnt := 0, trace := s.trace ++ burstWire s 0 } := by
  have hd : misoAt (csSet true s) = misoAt s := rfl
  simp only [burstBegin, spiXfers_eq, hd, burstWire]
  simp [csSet, emit, afterDraws]

theorem burstData_eq (d : List Byte) (s : State) :
    burstData d s =
      { afterDraws d.length s with bcnt := s.bcnt + 1, trace := s.trace ++ xferEvents s.csa (misoAt s) 0 d } := by
  simp [burstData, spiXfers_eq]

theorem strayData_eq (d : List Byte) (s : State) :
    strayData d s =
      { afterDraws d.length s with
        flags := { s.flags with stray := true }, trace := s.trace ++ xferEvents s.csa (misoAt s) 0 d } := by
  simp [strayData, spiXfers_eq, setStray]

theorem burstEnd_eq (s : State) :
    burstEnd s = { s with csa := false, seq := .burstClosed, trace := s.trace ++ closeWire } := by
  simp [burstEnd, csSet, delay, emit, closeWire]

theorem progPulse_eq (s : State) :
    progPulse s = { s with progn := true, trace := s.trace ++ pulseWire } := by
  simp [progPulse, progSet, delay, emit, pulseWire]

theorem isBusy_busyAt (s : State) (k : Nat) : isBusy s.params (busyAt s k) = busyThen s k := rfl

/-- Everything a busy poll does (R105), where the busy byte lies inside the read phase (R7). -/
theorem busyPoll_eq (s : State) (h : s.params.readBusy.off.toNat < s.params.readBusy.len.toNat) :
    busyPoll s =
      (busyAt s 0,
        { afterDraws (readLength s.params.readBusy) s with
          csa := false
          flags := { s.flags with busy := busyThen s 0 }
          trace := s.trace ++ readWire s 0 s.params.readBusy }) := by
  have hb : byteAt (misoBytes (misoAt s) 1 s.params.readBusy.len.toNat) s.params.readBusy.off.toNat = busyAt s 0 := by
    rw [byteAt_misoBytes _ _ _ _ h, busyAt]
  simp only [busyPoll, rdcmd_eq, hb, isBusy_busyAt]
  rfl

/-- Draws seen from a later state. -/
theorem busyAt_of {s t : State} (n k : Nat) (hm : misoAt t = fun i => misoAt s (n + i)) (hp : t.params = s.params) :
    busyAt t k = busyAt s (n + k) := by
  simp only [busyAt, hm, hp, Nat.add_assoc]

theorem busyThen_of {s t : State} (n k : Nat) (hm : misoAt t = fun i => misoAt s (n + i)) (hp : t.params = s.params) :
    busyThen t k = busyThen s (n + k) := by
  simp only [busyThen, busyAt_of n k hm hp, hp]

theorem registerAt_of {s t : State} (n k : Nat) (c : ReadCmd) (hm : misoAt t = fun i => misoAt s (n + i)) :
    registerAt t k c = registerAt s (n + k) c := by
  simp only [registerAt, hm, Nat.add_assoc]

/-- Wire sequences seen from a later state. -/
theorem readWire_of {s t : State} (n k : Nat) (c : ReadCmd) (hm : misoAt t = fun i => misoAt s (n + i))
    (hp : t.params = s.params) : readWire t k c = readWire s (n + k) c := by
  simp only [readWire, hm, hp, xferEvents_shift]

theorem cmdWire_of {s t : State} (n k : Nat) (l : List Byte) (hm : misoAt t = fun i => misoAt s (n + i)) :
    cmdWire t k l = cmdWire s (n + k) l := by
  simp only [cmdWire, hm, xferEvents_shift]

theorem burstWire_of {s t : State} (n k : Nat) (hm : misoAt t = fun i => misoAt s (n + i))
    (hp : t.params = s.params) : burstWire t k = burstWire s (n + k) := by
  simp only [burstWire, hm, hp, xferEvents_shift]

/-- The value of a register read whose offset lies inside the read phase (R7, R56). -/
theorem be32_misoBytes (s : State) (c : ReadCmd) (h : c.off.toNat + 4 ≤ c.len.toNat) :
    be32 (misoBytes (misoAt s) 1 c.len.toNat) c.off.toNat = registerAt s 0 c := by
  unfold be32 registerAt
  rw [byteAt_misoBytes _ _ _ _ (by omega), byteAt_misoBytes _ _ _ _ (by omega),
    byteAt_misoBytes _ _ _ _ (by omega), byteAt_misoBytes _ _ _ _ (by omega)]
  rw [show 1 + c.off.toNat = 0 + 1 + c.off.toNat by omega, show 1 + (c.off.toNat + 1) = 0 + 2 + c.off.toNat by omega,
    show 1 + (c.off.toNat + 2) = 0 + 3 + c.off.toNat by omega, show 1 + (c.off.toNat + 3) = 0 + 4 + c.off.toNat by omega]

/-! ## Transport writes -/

/-- Everything a run of transport writes does (R54). -/
theorem twrites_eq (bs : List Byte) (s : State) :
    twrites bs s = { s with tout := s.tout ++ bs, trace := s.trace ++ bs.map .tx } := by
  induction bs generalizing s with
  | nil => simp [twrites]
  | cons b bs ih => simp [twrites, ih, twrite, emit]

/-! ## What the parameter constraints give (R7) -/

theorem wf_readId {p : Params} (h : p.wf = true) : p.readId.off.toNat + 4 ≤ p.readId.len.toNat := by
  simp [Params.wf, ReadCmd.wf] at h
  omega

theorem wf_readStatus {p : Params} (h : p.wf = true) : p.readStatus.off.toNat + 4 ≤ p.readStatus.len.toNat := by
  simp [Params.wf, ReadCmd.wf] at h
  omega

theorem wf_readBusy {p : Params} (h : p.wf = true) : p.readBusy.off.toNat < p.readBusy.len.toNat := by
  simp [Params.wf, ReadCmd.wf] at h
  omega

theorem wf_rxBufSize {p : Params} (h : p.wf = true) : 1 ≤ p.rxBufSize.toNat ∧ p.rxBufSize.toNat ≤ 65535 := by
  simp [Params.wf, ReadCmd.wf] at h
  omega

/-- A busy poll under well-formed parameters (R105, R7). -/
theorem busyPoll_wf {s : State} (h : s.params.wf = true) :
    busyPoll s =
      (busyAt s 0,
        { afterDraws (readLength s.params.readBusy) s with
          csa := false
          flags := { s.flags with busy := busyThen s 0 }
          trace := s.trace ++ readWire s 0 s.params.readBusy }) :=
  busyPoll_eq s (wf_readBusy h)

/-- The close of a burst where one is open (R172, R173). -/
theorem closeBurst_eq (s : State) :
    closeBurst s = if s.seq = .burstOpen then
      { s with csa := false, seq := .burstClosed, trace := s.trace ++ closeWire } else s := by
  simp only [closeBurst, burstEnd_eq]

end Sys2Proof.Machine
end

