-- ==== Sys2Proof/Laws/Words.lean ====
section
/-!
SUPPORT. The fields of the two 64-bit words: what a request word built from fields reads as (30_encoding.md R70), that a
word with RSVD = 0 is built from its own fields, and what a response word reads as (R72).
-/

namespace Sys2Proof

/-- A field inside the lower part of a concatenation. -/
theorem extract_append_low {m n : Nat} (x : BitVec m) (y : BitVec n) (start len : Nat) (h : start + len ≤ n) :
    (x ++ y).extractLsb' start len = y.extractLsb' start len := by
  apply BitVec.eq_of_getLsbD_eq
  intro i hi
  simp only [BitVec.getLsbD_extractLsb', BitVec.getLsbD_append, hi, show start + i < n by omega, if_true]

/-- A field inside the upper part of a concatenation. -/
theorem extract_append_high {m n : Nat} (x : BitVec m) (y : BitVec n) (start len : Nat) (h : n ≤ start) :
    (x ++ y).extractLsb' start len = x.extractLsb' (start - n) len := by
  apply BitVec.eq_of_getLsbD_eq
  intro i hi
  simp only [BitVec.getLsbD_extractLsb', BitVec.getLsbD_append, hi, show ¬ start + i < n by omega, if_false,
    show start - n + i = start + i - n by omega]

theorem extract_all {n : Nat} (x : BitVec n) : x.extractLsb' 0 n = x := by
  apply BitVec.eq_of_getLsbD_eq
  intro i hi
  simp [hi]

@[simp] theorem opField_requestWord (op a8 : Byte) (n : U32) : opField (requestWord op a8 n) = op := by
  rw [opField, requestWord, extract_append_low _ _ _ _ (by decide), extract_all]

@[simp] theorem a8Field_requestWord (op a8 : Byte) (n : U32) : a8Field (requestWord op a8 n) = a8 := by
  rw [a8Field, requestWord, extract_append_high _ _ _ _ (by decide), extract_append_low _ _ _ _ (by decide), extract_all]

@[simp] theorem rsvdField_requestWord (op a8 : Byte) (n : U32) : rsvdField (requestWord op a8 n) = 0 := by
  rw [rsvdField, requestWord, extract_append_high _ _ _ _ (by decide), extract_append_high _ _ _ _ (by decide),
    extract_append_low _ _ _ _ (by decide), extract_all]
  rfl

@[simp] theorem nField_requestWord (op a8 : Byte) (n : U32) : nField (requestWord op a8 n) = n := by
  rw [nField, requestWord, extract_append_high _ _ _ _ (by decide), extract_append_high _ _ _ _ (by decide),
    extract_append_high _ _ _ _ (by decide), extract_all]

/-- A word whose reserved field is 0 is built from its other fields. -/
theorem requestWord_fields (w : U64) (h : rsvdField w = 0) : requestWord (opField w) (a8Field w) (nField w) = w := by
  have e : nField w ++ rsvdField w ++ a8Field w ++ opField w = w := by
    apply BitVec.eq_of_getLsbD_eq
    intro i hi
    simp only [nField, rsvdField, a8Field, opField, BitVec.getLsbD_append, BitVec.getLsbD_extractLsb']
    split
    · simp [*]
    · split
      · simp [*, show 8 + (i - 8) = i by omega]
      · split
        · simp [*, show 16 + (i - 8 - 8) = i by omega]
        · simp [show i - 8 - 8 - 16 < 32 by omega, show 32 + (i - 8 - 8 - 16) = i by omega]
  rw [h] at e
  exact e

namespace Machine

@[simp] theorem responseWord_code (c : Code) (v : U32) (s : State) :
    (responseWord c v s).extractLsb' 0 8 = c.toByte := by
  rw [responseWord, extract_append_low _ _ _ _ (by decide), extract_all]

@[simp] theorem responseWord_flags (c : Code) (v : U32) (s : State) :
    (responseWord c v s).extractLsb' 8 8 = flagsWord s := by
  rw [responseWord, extract_append_high _ _ _ _ (by decide), extract_append_low _ _ _ _ (by decide), extract_all]

@[simp] theorem responseWord_seq (c : Code) (v : U32) (s : State) :
    (responseWord c v s).extractLsb' 16 2 = s.seq.toBits := by
  rw [responseWord, extract_append_high _ _ _ _ (by decide), extract_append_high _ _ _ _ (by decide),
    extract_append_low _ _ _ _ (by decide), extract_all]

@[simp] theorem responseWord_zeros (c : Code) (v : U32) (s : State) :
    (responseWord c v s).extractLsb' 18 14 = 0 := by
  rw [responseWord, extract_append_high _ _ _ _ (by decide), extract_append_high _ _ _ _ (by decide),
    extract_append_high _ _ _ _ (by decide), extract_append_low _ _ _ _ (by decide), extract_all]
  rfl

@[simp] theorem responseWord_value (c : Code) (v : U32) (s : State) :
    (responseWord c v s).extractLsb' 32 32 = v := by
  rw [responseWord, extract_append_high _ _ _ _ (by decide), extract_append_high _ _ _ _ (by decide),
    extract_append_high _ _ _ _ (by decide), extract_append_high _ _ _ _ (by decide), extract_all]

theorem Code.toByte_injective {c d : Code} (h : c.toByte = d.toByte) : c = d := by
  revert h; cases c <;> cases d <;> decide

end Machine

end Sys2Proof
end

