-- ==== Sys2Proof/Laws/PerInstr.lean ====
section
/-!
SUPPORT. One statement about every request as syntax, request by request: the word of the request has its opcode of the
table (30_encoding.md R74) in bits 7:0, its operands in their fields, and 0 in every field that carries none (R70, R76).
-/

namespace Sys2Proof.Laws.Fields

/-- The four fields of a word. -/
def HasFields (w : U64) (op a8 : Byte) (n : U32) : Prop :=
  opField w = op ∧ a8Field w = a8 ∧ rsvdField w = 0 ∧ nField w = n

/-- The fields of the request's word, from the table of R74. -/
def Statement : Instr → Prop
  | .initConfig board => HasFields (encode (.initConfig board)) 0x01 board 0
  | .progPulse => HasFields (encode .progPulse) 0x02 0 0
  | .readId => HasFields (encode .readId) 0x10 0 0
  | .readStatus => HasFields (encode .readStatus) 0x11 0 0
  | .pollBusy => HasFields (encode .pollBusy) 0x12 0 0
  | .enterIsc => HasFields (encode .enterIsc) 0x20 0 0
  | .exitIsc => HasFields (encode .exitIsc) 0x21 0 0
  | .burstBegin => HasFields (encode .burstBegin) 0x30 0 0
  | .burstData n => HasFields (encode (.burstData n)) 0x31 0 n
  | .burstEnd => HasFields (encode .burstEnd) 0x32 0 0
  | .sessionOpen => HasFields (encode .sessionOpen) 0x40 0 0
  | .sessionClose => HasFields (encode .sessionClose) 0x41 0 0
  | .sessionAbort => HasFields (encode .sessionAbort) 0x42 0 0
  | .programDevice n => HasFields (encode (.programDevice n)) 0x43 0 n
  | .frameTx n => HasFields (encode (.frameTx n)) 0x50 0 n
  | .frameRx maxSize => HasFields (encode (.frameRx maxSize)) 0x51 0 maxSize
  | .cksum seed n => HasFields (encode (.cksum seed n)) 0x52 seed n

/-- A word built from fields has them. -/
theorem requestWord_hasFields (op a8 : Byte) (n : U32) : HasFields (requestWord op a8 n) op a8 n :=
  ⟨opField_requestWord _ _ _, a8Field_requestWord _ _ _, rsvdField_requestWord _ _ _, nField_requestWord _ _ _⟩

theorem initConfig (board : Byte) : Statement (.initConfig board) := requestWord_hasFields _ _ _
theorem progPulse : Statement .progPulse := requestWord_hasFields _ _ _
theorem readId : Statement .readId := requestWord_hasFields _ _ _
theorem readStatus : Statement .readStatus := requestWord_hasFields _ _ _
theorem pollBusy : Statement .pollBusy := requestWord_hasFields _ _ _
theorem enterIsc : Statement .enterIsc := requestWord_hasFields _ _ _
theorem exitIsc : Statement .exitIsc := requestWord_hasFields _ _ _
theorem burstBegin : Statement .burstBegin := requestWord_hasFields _ _ _
theorem burstData (n : U32) : Statement (.burstData n) := requestWord_hasFields _ _ _
theorem burstEnd : Statement .burstEnd := requestWord_hasFields _ _ _
theorem sessionOpen : Statement .sessionOpen := requestWord_hasFields _ _ _
theorem sessionClose : Statement .sessionClose := requestWord_hasFields _ _ _
theorem sessionAbort : Statement .sessionAbort := requestWord_hasFields _ _ _
theorem programDevice (n : U32) : Statement (.programDevice n) := requestWord_hasFields _ _ _
theorem frameTx (n : U32) : Statement (.frameTx n) := requestWord_hasFields _ _ _
theorem frameRx (maxSize : U32) : Statement (.frameRx maxSize) := requestWord_hasFields _ _ _
theorem cksum (seed : Byte) (n : U32) : Statement (.cksum seed n) := requestWord_hasFields _ _ _

end Sys2Proof.Laws.Fields
end

