-- ==== Sys2Proof/Laws/Request.lean ====
section
/-!
SUPPORT. Admission and sequence (60_exceptions.md R232-R234): what a request is before its body runs, once for all
requests, and how a completed request came about.
-/

namespace Sys2Proof.Machine

theorem accept_wf {s : State} (h : s.params.wf = true) (go : Host.Outcome State Fault Refusal) : accept s go = go := by
  simp [accept, h]

theorem accept_illFormed {s : State} (h : s.params.wf = false) (go : Host.Outcome State Fault Refusal) :
    accept s go = .refused .illFormedParameters := by
  simp [accept, h]

/-- An admitted request is its body. -/
theorem request_admitted {cls : AdmitClass} {n : Nat} {body : State → Host.Outcome State Fault Refusal} {s : State}
    (hw : s.params.wf = true) (hd : s.dataIn.length = n) (hi : cls = .spi → s.init = true) :
    request cls n body s = body s := by
  cases cls <;> simp_all [request, accept, admission]

/-- A data list of the wrong length is E_ARG before anything else (R232). -/
theorem request_badLength {cls : AdmitClass} {n : Nat} {body : State → Host.Outcome State Fault Refusal} {s : State}
    (hw : s.params.wf = true) (hd : s.dataIn.length ≠ n) : request cls n body s = .next (respond .eArg 0 s) := by
  simp [request, accept, admission, hw, hd]

/-- A request of class spi before INIT_CONFIG is E_NOINIT (R232). -/
theorem request_noInit {n : Nat} {body : State → Host.Outcome State Fault Refusal} {s : State}
    (hw : s.params.wf = true) (hd : s.dataIn.length = n) (hi : s.init = false) :
    request .spi n body s = .next (respond .eNoInit 0 s) := by
  simp [request, accept, admission, hw, hd, hi]

/-- How a completed request came about: rejected by `admission`, or its body's answer to an admitted request. -/
theorem request_next {cls : AdmitClass} {n : Nat} {body : State → Host.Outcome State Fault Refusal} {s t : State}
    (h : request cls n body s = .next t) :
    s.params.wf = true ∧
      ((s.dataIn.length ≠ n ∧ t = respond .eArg 0 s) ∨
        (cls = .spi ∧ s.dataIn.length = n ∧ s.init = false ∧ t = respond .eNoInit 0 s) ∨
        (s.dataIn.length = n ∧ (cls = .spi → s.init = true) ∧ body s = .next t)) := by
  cases hw : s.params.wf with
  | false => simp [request, accept, hw] at h
  | true =>
    refine ⟨rfl, ?_⟩
    by_cases hd : s.dataIn.length = n
    · cases cls with
      | noinit => rw [request_admitted hw hd (by simp)] at h; exact .inr (.inr ⟨hd, by simp, h⟩)
      | spi =>
        cases hi : s.init with
        | false =>
          rw [request_noInit hw hd hi] at h
          cases h
          exact .inr (.inl ⟨rfl, hd, rfl, rfl⟩)
        | true => rw [request_admitted hw hd (fun _ => hi)] at h; exact .inr (.inr ⟨hd, fun _ => rfl, h⟩)
    · rw [request_badLength hw hd] at h
      cases h
      exact .inl ⟨hd, rfl⟩

theorem inSequence_legal {legal : SeqState → Bool} {f : State → State} {s : State} (h : legal s.seq = true) :
    inSequence legal f s = f s := by
  simp [inSequence, h]

theorem inSequence_illegal {legal : SeqState → Bool} {f : State → State} {s : State} (h : legal s.seq = false) :
    inSequence legal f s = rejectSeq s := by
  simp [inSequence, h]

theorem rejectSeq_eq (s : State) :
    rejectSeq s = respond .eSeq 0 { s with flags := { s.flags with seqErr := true } } := rfl

/-- The response word depends on FLAGS' stored bits, INIT and SEQ only. -/
theorem responseWord_congr {c : Code} {v : U32} {s t : State} (hf : t.flags = s.flags) (hi : t.init = s.init)
    (hq : t.seq = s.seq) : responseWord c v t = responseWord c v s := by
  simp [responseWord, flagsWord, hf, hi, hq]

/-- How a request of class spi that always completes came about: rejected by `admission`, or its body's effect. -/
theorem spi_next {n : Nat} {f : State → State} {s t : State} (h : request .spi n (completes f) s = .next t) :
    t = respond .eArg 0 s ∨ (s.init = false ∧ t = respond .eNoInit 0 s) ∨
      (s.params.wf = true ∧ s.dataIn.length = n ∧ s.init = true ∧ t = f s) := by
  obtain ⟨hw, h | h | ⟨hd, hi, hb⟩⟩ := request_next h
  · exact .inl h.2
  · exact .inr (.inl h.2.2)
  · cases hb
    exact .inr (.inr ⟨hw, hd, hi rfl, rfl⟩)

/-- The same for class noinit. -/
theorem noinit_next {n : Nat} {f : State → State} {s t : State} (h : request .noinit n (completes f) s = .next t) :
    t = respond .eArg 0 s ∨ (s.params.wf = true ∧ s.dataIn.length = n ∧ t = f s) := by
  obtain ⟨hw, h | h | ⟨hd, -, hb⟩⟩ := request_next h
  · exact .inl h.2
  · cases h.1
  · cases hb
    exact .inr ⟨hw, hd, rfl⟩

/-- A body guarded by `inSequence`: rejected, or run. -/
theorem inSequence_cases (legal : SeqState → Bool) (f : State → State) (s : State) :
    (legal s.seq = false ∧ inSequence legal f s = rejectSeq s) ∨ (legal s.seq = true ∧ inSequence legal f s = f s) := by
  cases hl : legal s.seq
  · exact .inl ⟨rfl, inSequence_illegal hl⟩
  · exact .inr ⟨rfl, inSequence_legal hl⟩

end Sys2Proof.Machine
end

