-- ==== Sys2Proof/Laws/Trace.lean ====
section
/-!
SUPPORT. Traces: what following one, filtering it, and counting in it give for two traces one after the other and for a
run of transfers.
-/

namespace Sys2Proof.Machine

theorem replay_append (p : Pins) (as bs : List Event) : replay p (as ++ bs) = (replay p as).bind fun q => replay q bs := by
  induction as generalizing p with
  | nil => rfl
  | cons e as ih =>
    cases e with
    | xfer c m r =>
      simp only [List.cons_append, replay]
      split
      · exact ih p
      · rfl
    | _ => simp only [List.cons_append, replay, ih]

/-- Transfers at the level the pin has leave every level as it is. -/
theorem replay_xferEvents (p : Pins) (miso : Nat → Byte) (k : Nat) (ms : List Byte) :
    replay p (xferEvents p.cs miso k ms) = some p := by
  induction ms generalizing k with
  | nil => rfl
  | cons m ms ih => simp [xferEvents, replay, ih]

theorem txBytes_append (as bs : List Event) : txBytes (as ++ bs) = txBytes as ++ txBytes bs := by
  induction as with
  | nil => rfl
  | cons e as ih => cases e <;> simp [txBytes, ih]

@[simp] theorem txBytes_map_tx (bs : List Byte) : txBytes (bs.map .tx) = bs := by
  induction bs with
  | nil => rfl
  | cons b bs ih => simp [txBytes, ih]

@[simp] theorem txBytes_xferEvents (cs : Bool) (miso : Nat → Byte) (k : Nat) (ms : List Byte) :
    txBytes (xferEvents cs miso k ms) = [] := by
  induction ms generalizing k with
  | nil => rfl
  | cons m ms ih => simp [xferEvents, txBytes, ih]

@[simp] theorem onWire_xferEvents (cs : Bool) (miso : Nat → Byte) (k : Nat) (ms : List Byte) :
    (xferEvents cs miso k ms).filter Event.onWire = xferEvents cs miso k ms := by
  induction ms generalizing k with
  | nil => rfl
  | cons m ms ih => rw [xferEvents, List.filter_cons_of_pos rfl, ih]

@[simp] theorem onWire_map_tx (bs : List Byte) : (bs.map Event.tx).filter Event.onWire = [] := by
  induction bs with
  | nil => rfl
  | cons b bs ih => rw [List.map_cons, List.filter_cons_of_neg (by simp [Event.onWire]), ih]

theorem responsesSinceReset_response (log : List LogEntry) (r : Response) :
    responsesSinceReset (log ++ [.response r]) = responsesSinceReset log + 1 := by
  simp [responsesSinceReset]

theorem responsesSinceReset_reset (log : List LogEntry) (tr : List Event) :
    responsesSinceReset (log ++ [.reset tr]) = 0 := by
  simp [responsesSinceReset]

end Sys2Proof.Machine
end

