-- ==== Sys2Proof/Tests/Slice0.lean ====
section
/-!
SUPPORT. The model's own tests: decoding of words written out from 30_encoding.md, ill-formed data that the checks refuse,
one step of each request against the vectors of 95_test_vectors.md, and for every statement with hypotheses a concrete
state and operands that meet them.
-/

namespace Sys2Proof.Tests

open Sys2Proof Sys2Proof.Machine

/-! ## Decoding (R74, R79) -/

/-- The words of R79: initialisation, reads, configuration mode. -/
theorem test_decode_spi :
    decode 0x0000000000000001 = .ok (.initConfig 0x00) ∧ decode 0x0000000000000002 = .ok .progPulse ∧
    decode 0x0000000000000010 = .ok .readId ∧ decode 0x0000000000000011 = .ok .readStatus ∧
    decode 0x0000000000000012 = .ok .pollBusy ∧ decode 0x0000000000000020 = .ok .enterIsc ∧
    decode 0x0000000000000021 = .ok .exitIsc :=
  ⟨rfl, rfl, rfl, rfl, rfl, rfl, rfl⟩

/-- The words of R79: bursts and sessions. -/
theorem test_decode_sessions :
    decode 0x0000000000000030 = .ok .burstBegin ∧ decode 0x0000000300000031 = .ok (.burstData 3) ∧
    decode 0x0000000000000032 = .ok .burstEnd ∧ decode 0x0000000000000040 = .ok .sessionOpen ∧
    decode 0x0000000000000041 = .ok .sessionClose ∧ decode 0x0000000000000042 = .ok .sessionAbort ∧
    decode 0x0000000200000043 = .ok (.programDevice 2) :=
  ⟨rfl, rfl, rfl, rfl, rfl, rfl, rfl⟩

/-- The words of R79: the framer. -/
theorem test_decode_framer :
    decode 0x0000000300000050 = .ok (.frameTx 3) ∧ decode 0x0000004000000051 = .ok (.frameRx 64) ∧
    decode 0x0000000200001052 = .ok (.cksum 0x10 2) :=
  ⟨rfl, rfl, rfl⟩

/-- Operand fields at their ends, and the vector AD-6. -/
theorem test_decode_operands :
    decode 0x0000000000000701 = .ok (.initConfig 0x07) ∧ decode 0xFFFFFFFF00000031 = .ok (.burstData 0xFFFFFFFF) ∧
    decode 0x800000010000FE52 = .ok (.cksum 0xFE 0x80000001) :=
  ⟨rfl, rfl, rfl⟩

/-- The vectors AD-1, AD-4, AD-7, AD-11, AD-12: each reason of E_ILLEGAL. -/
theorem test_decode_illegal :
    decode 0x0000000000000000 = .error .unassignedOp ∧ decode 0x0000000000010010 = .error .rsvdNotZero ∧
    decode 0x0000000100000001 = .error .nNotZero ∧ decode 0x0000000000000110 = .error .a8NotZero ∧
    decode 0x0000000100000010 = .error .nNotZero :=
  ⟨rfl, rfl, rfl, rfl, rfl⟩

/-- The encoder gives the words of R79 back. -/
theorem test_encode :
    encode (.cksum 0x10 2) = 0x0000000200001052 ∧ encode (.frameRx 64) = 0x0000004000000051 ∧
    encode (.programDevice 2) = 0x0000000200000043 ∧ encode .sessionAbort = 0x0000000000000042 := by
  decide

/-- An opcode-table word whose operand bits are left out decodes with the operand 0. -/
theorem test_decodeTableWord :
    decodeTableWord 32 0x31 = some (.burstData 0) ∧ decodeTableWord 32 0x1052 = some (.cksum 0x10 0) ∧
    decodeTableWord 32 0x33 = none := by
  decide

/-! ## Ill-formed data, one term a check (R7, R6, R77) -/

def ri : Params := Params.reference

theorem test_reference_wf : ri.wf = true := by decide
theorem test_illFormed_readId : { ri with readId := { cmd := 0, len := 6, off := 3 } }.wf = false := by decide
theorem test_illFormed_readStatus : { ri with readStatus := { cmd := 0, len := 3, off := 0 } }.wf = false := by decide
theorem test_illFormed_readBusy : { ri with readBusy := { cmd := 0, len := 3, off := 3 } }.wf = false := by decide
theorem test_illFormed_txIscEn : { ri with txIscEn := [] }.wf = false := by decide
theorem test_illFormed_txIscDis : { ri with txIscDis := [] }.wf = false := by decide
theorem test_illFormed_txBurst : { ri with txBurst := [] }.wf = false := by decide
theorem test_illFormed_busyMask : { ri with busyMask := 0 }.wf = false := by decide
theorem test_illFormed_boardTable : { ri with boardTable := [] }.wf = false := by decide
theorem test_illFormed_rxBufSize_low : { ri with rxBufSize := 0 }.wf = false := by decide
theorem test_illFormed_rxBufSize_high : { ri with rxBufSize := 65536 }.wf = false := by decide
theorem test_wellFormed_edges :
    { ri with readBusy := { cmd := 0, len := 1, off := 0 }, rxBufSize := 65535, readId := { cmd := 0, len := 4, off := 0 } }.wf
      = true := by decide
theorem test_disagreeing_data :
    (Instr.burstData 2).agrees [0x01] = false ∧ Instr.readId.agrees [0x00] = false ∧
    (Instr.frameRx 64).agrees [0x00] = false ∧ (Instr.cksum 0 1).agrees [0xFF] = true := by decide

/-! ## One step of each request: the vectors of 95_test_vectors.md under RI -/

/-- "After INIT", in a given SEQ, with the coming MISO bytes. -/
def ready (q : SeqState) (miso : List Byte) : State :=
  { State.reset with
    init := true, pindrv := true, seq := q, csa := q == .burstOpen, miso := miso
    cfg := { board := 0, pinCS := 1, pinCLK := 2, pinMOSI := 3, pinMISO := 4, pinPROG := 5, spiBus := 0 } }

/-- What a test looks at: the response, and what the request added to the trace and to TOUT. -/
structure Seen where
  word : U64
  dout : List Byte
  events : List Event
  sent : List Byte
  deriving DecidableEq, Repr

/-- What one request from `s` shows. -/
def see (s : State) (word : U64) (data : List Byte) : Option Seen :=
  match issue word data s with
  | .next t =>
    match lastResponse t with
    | some r =>
      some { word := r.word, dout := r.dout, events := t.trace.drop s.trace.length, sent := t.tout.drop s.tout.length }
    | none => none
  | .fault _ => none
  | .refused _ => none

/-- One field of the state after a request. -/
def after {α : Type} (f : State → α) (s : State) (word : U64) (data : List Byte) : Option α :=
  match issue word data s with
  | .next t => some (f t)
  | .fault _ => none
  | .refused _ => none

/-- Bytes shifted out at a chip-select level against the bytes shifted in. -/
def xfers (cs : Bool) (mosi miso : List Byte) : List Event := List.zipWith (Event.xfer cs) mosi miso

def zeros (n : Nat) : List Byte := List.replicate n 0

def iscen : List Event := [.cs true] ++ xfers true [0xC6, 0, 0, 0] (zeros 4) ++ [.cs false]
def iscdis : List Event := [.cs true] ++ xfers true [0x26, 0, 0, 0] (zeros 4) ++ [.cs false]
def burstOpcode : List Event := [.cs true] ++ xfers true [0x7A, 0, 0, 0] (zeros 4)
def poll (r : List Byte) : List Event := [.cs true] ++ xfers true [0xF0, 0, 0, 0, 0] (0 :: r) ++ [.cs false]
def idrd (r : List Byte) : List Event := [.cs true] ++ xfers true [0xE0, 0, 0, 0, 0, 0, 0, 0] (0 :: r) ++ [.cs false]
def strd (r : List Byte) : List Event := [.cs true] ++ xfers true [0x3C, 0, 0, 0, 0, 0, 0, 0] (0 :: r) ++ [.cs false]
def pulse : List Event := [.prog false, .delay .progLow, .prog true, .delay .progSettle]
def goodId : List Byte := [0xFF, 0xFF, 0xFF, 0x41, 0x11, 0x10, 0x43]
def busyRead : List Byte := [0, 0, 0, 0x80]

/-- AD-1. -/
theorem test_illegal_op :
    see State.reset 0x0000000000000000 [] =
      some { word := 0x0000000000000005, dout := [], events := [], sent := [] } := by decide +kernel

/-- AD-4. -/
theorem test_illegal_outranks_noinit :
    see State.reset 0x0000000000010010 [] =
      some { word := 0x0000000000000005, dout := [], events := [], sent := [] } := by decide +kernel

/-- AD-3. -/
theorem test_length_outranks_noinit :
    see State.reset 0x0000000200000031 [0x01] =
      some { word := 0x0000000000000006, dout := [], events := [], sent := [] } := by decide +kernel

/-- AD-2. -/
theorem test_noinit :
    see State.reset 0x0000000000000010 [] =
      some { word := 0x0000000000000004, dout := [], events := [], sent := [] } := by decide +kernel

/-- IN-1. -/
theorem test_initConfig :
    see State.reset 0x0000000000000001 [] =
      some { word := 0x0000000000000800, dout := [], events := [.prog true, .cs false, .spiInit, .delay .initSettle], sent := [] } := by decide +kernel

/-- AD-15. -/
theorem test_initConfig_value_outranks_seq :
    see (ready .idle []) 0x0000000000000701 [] =
      some { word := 0x0000000000000806, dout := [], events := [], sent := [] } := by decide +kernel

/-- PP-1. -/
theorem test_progPulse :
    see (ready .idle []) 0x0000000000000002 [] =
      some { word := 0x0000000000000800, dout := [], events := pulse, sent := [] } := by decide +kernel

/-- PP-2. -/
theorem test_progPulse_outOfSequence :
    see (ready .iscEnabled []) 0x0000000000000002 [] =
      some { word := 0x0000000000010903, dout := [], events := [], sent := [] } := by decide +kernel

/-- RD-4: big-endian from offset 3. -/
theorem test_readId :
    see (ready .idle [0, 0x12, 0x34, 0x56, 1, 2, 3, 4]) 0x0000000000000010 [] =
      some { word := 0x0102030400000800, dout := [], events := idrd [0x12, 0x34, 0x56, 1, 2, 3, 4], sent := [] } := by decide +kernel

/-- RD-6. -/
theorem test_readId_burstOpen :
    see (ready .burstOpen []) 0x0000000000000010 [] =
      some { word := 0x0000000000020903, dout := [], events := [], sent := [] } := by decide +kernel

/-- ST-2. -/
theorem test_readStatus :
    see (ready .idle [0, 0xAA, 0xAA, 0xAA, 0xDE, 0xAD, 0xBE, 0xEF]) 0x0000000000000011 [] =
      some { word := 0xDEADBEEF00000800, dout := [], events := strd [0xAA, 0xAA, 0xAA, 0xDE, 0xAD, 0xBE, 0xEF], sent := [] } := by decide +kernel

/-- ST-3. -/
theorem test_readStatus_burstOpen :
    see (ready .burstOpen []) 0x0000000000000011 [] =
      some { word := 0x0000000000020903, dout := [], events := [], sent := [] } := by decide +kernel

/-- PB-2: CODE OK, BUSY set. -/
theorem test_pollBusy :
    see (ready .idle (0 :: busyRead)) 0x0000000000000012 [] =
      some { word := 0x0000008000000C00, dout := [], events := poll busyRead, sent := [] } := by decide +kernel

/-- PB-1: the three bytes before the busy byte are skipped. -/
theorem test_pollBusy_skips :
    see (ready .idle [0, 0xFF, 0xFF, 0xFF, 0]) 0x0000000000000012 [] =
      some { word := 0x0000000000000800, dout := [], events := poll [0xFF, 0xFF, 0xFF, 0], sent := [] } := by decide +kernel

/-- IS-1. -/
theorem test_enterIsc :
    see (ready .idle (zeros 4)) 0x0000000000000020 [] =
      some { word := 0x0000000000010800, dout := [], events := iscen, sent := [] } := by decide +kernel

/-- IS-2. -/
theorem test_enterIsc_twice :
    see (ready .iscEnabled []) 0x0000000000000020 [] =
      some { word := 0x0000000000010903, dout := [], events := [], sent := [] } := by decide +kernel

/-- IS-3. -/
theorem test_exitIsc :
    see (ready .iscEnabled (zeros 4)) 0x0000000000000021 [] =
      some { word := 0x0000000000000800, dout := [], events := iscdis, sent := [] } := by decide +kernel

/-- IS-5. -/
theorem test_exitIsc_burstOpen :
    see (ready .burstOpen []) 0x0000000000000021 [] =
      some { word := 0x0000000000020903, dout := [], events := [], sent := [] } := by decide +kernel

/-- BW-2. -/
theorem test_burstBegin :
    see (ready .iscEnabled (zeros 4)) 0x0000000000000030 [] =
      some { word := 0x0000000000020800, dout := [], events := burstOpcode, sent := [] } := by decide +kernel

/-- BW-1. -/
theorem test_burstBegin_idle :
    see (ready .idle []) 0x0000000000000030 [] =
      some { word := 0x0000000000000903, dout := [], events := [], sent := [] } := by decide +kernel

/-- BW-4 with FLAGS 0x08: the bytes alone, no CS event. -/
theorem test_burstData :
    see (ready .burstOpen (zeros 3)) 0x0000000300000031 [1, 2, 3] =
      some { word := 0x0000000300020800, dout := [], events := xfers true [1, 2, 3] (zeros 3), sent := [] } := by decide +kernel

/-- BW-11. -/
theorem test_burstData_stray :
    see (ready .idle [0]) 0x0000000100000031 [0xAA] =
      some { word := 0x0000000100000A00, dout := [], events := xfers false [0xAA] [0], sent := [] } := by decide +kernel

/-- BW-6 with FLAGS 0x08: VALUE is BCNT. -/
theorem test_burstEnd :
    see { ready .burstOpen [] with bcnt := 2 } 0x0000000000000032 [] =
      some { word := 0x0000000200030800, dout := [], events := [.cs false, .delay .burstSettle], sent := [] } := by decide +kernel

/-- BW-7 with FLAGS 0x08. -/
theorem test_burstEnd_twice :
    see (ready .burstClosed []) 0x0000000000000032 [] =
      some { word := 0x0000000000030903, dout := [], events := [], sent := [] } := by decide +kernel

/-- SS-1. -/
theorem test_sessionOpen :
    see (ready .idle (zeros 13)) 0x0000000000000040 [] =
      some { word := 0x0000000000020800, dout := [], events := poll (zeros 4) ++ iscen ++ burstOpcode, sent := [] } := by decide +kernel

/-- SS-2. -/
theorem test_sessionOpen_busy :
    see (ready .idle (0 :: busyRead)) 0x0000000000000040 [] =
      some { word := 0x0000008000000C01, dout := [], events := poll busyRead, sent := [] } := by decide +kernel

/-- SS-7. -/
theorem test_sessionClose_busy :
    see (ready .burstOpen (zeros 5 ++ busyRead)) 0x0000000000000041 [] =
      some { word := 0x0000008000000C01, dout := [], events := [.cs false, .delay .burstSettle] ++ iscdis ++ poll busyRead, sent := [] } := by decide +kernel

/-- SS-10. -/
theorem test_sessionClose_burstClosed :
    see (ready .burstClosed (zeros 9)) 0x0000000000000041 [] =
      some { word := 0x0000000000000800, dout := [], events := iscdis ++ poll (zeros 4), sent := [] } := by decide +kernel

/-- SS-12. -/
theorem test_sessionAbort :
    see (ready .burstOpen (zeros 4)) 0x0000000000000042 [] =
      some { word := 0x0000000000000800, dout := [], events := [.cs false, .delay .burstSettle] ++ iscdis, sent := [] } := by decide +kernel

/-- SS-11. -/
theorem test_sessionAbort_idle :
    see (ready .idle []) 0x0000000000000042 [] =
      some { word := 0x0000000000000800, dout := [], events := [], sent := [] } := by decide +kernel

/-- PD-1. -/
theorem test_programDevice :
    see (ready .idle (0 :: goodId ++ zeros 24)) 0x0000000200000043 [0xAA, 0xBB] =
      some { word := 0x0000000000000800, dout := [], events := pulse ++ idrd goodId ++ poll (zeros 4) ++ iscen ++ burstOpcode
        ++ xfers true [0xAA, 0xBB] (zeros 2) ++ [.cs false, .delay .burstSettle] ++ iscdis ++ poll (zeros 4), sent := [] } := by decide +kernel

/-- PD-2. -/
theorem test_programDevice_unknownId :
    see (ready .idle [0, 0, 0, 0, 0x12, 0x34, 0x56, 0x78]) 0x0000000200000043 [0xAA, 0xBB] =
      some { word := 0x1234567800000802, dout := [], events := pulse ++ idrd [0, 0, 0, 0x12, 0x34, 0x56, 0x78], sent := [] } := by decide +kernel

/-- FT-4. -/
theorem test_frameTx :
    see State.reset 0x0000000300000050 [1, 2, 3] =
      some { word := 0x0006000300000000, dout := [], events := [0xA5, 4, 0, 1, 2, 3, 6].map .tx, sent := [0xA5, 4, 0, 1, 2, 3, 6] } := by decide +kernel

/-- FT-2: a payload byte equal to the magic is sent unescaped. -/
theorem test_frameTx_magicInside :
    see State.reset 0x0000000100000050 [0xA5] =
      some { word := 0x00A5000100000000, dout := [], events := [0xA5, 2, 0, 0xA5, 0xA5].map .tx, sent := [0xA5, 2, 0, 0xA5, 0xA5] } := by decide +kernel

/-- FR-7. -/
theorem test_frameRx :
    see { State.reset with tin := inTime [0xA5, 4, 0, 1, 2, 3, 6] } 0x0000000400000051 [] =
      some { word := 0x0006000300000000, dout := [1, 2, 3], events := [], sent := [] } := by decide +kernel

/-- FR-13: five bytes consumed, RXBUF[0..1] = 01 02. -/
theorem test_frameRx_shortBody :
    after (fun t => (t.tin, t.rxbuf)) { State.reset with tin := inTime [0xA5, 4, 0, 1, 2] ++ [.late, .byte 9] }
      0x0000004000000051 [] = some ([.byte 9], [(0, 1), (1, 2)]) := by decide +kernel

/-- CK-3. -/
theorem test_cksum :
    see State.reset 0x0000000200001052 [1, 2] =
      some { word := 0x0000001300000000, dout := [], events := [], sent := [] } := by decide +kernel

/-- CK-5. -/
theorem test_cksum_wraps :
    see State.reset 0x000000010000FE52 [3] =
      some { word := 0x0000000100000000, dout := [], events := [], sent := [] } := by decide +kernel

/-! ## Reset, the step, the memory -/

/-- The state of R37. -/
theorem test_reset :
    State.reset.init = false ∧ State.reset.seq = .idle ∧ State.reset.bcnt = 0 ∧ State.reset.csa = false ∧
    State.reset.pindrv = false ∧ State.reset.progn = true ∧ flagsWord State.reset = 0 ∧ State.reset.trace = [] := by
  decide

/-- A reset inside BURST_DATA after two of its three bytes (R261): no response, the two transfers stay in the old trace,
and nothing closes the burst. -/
theorem test_resetDuring :
    (match step { ready .burstOpen (zeros 3) with inputs := [.resetDuring 0x0000000300000031 [1, 2, 3] 2 []] } with
     | .next t => some (t.log, t.trace, t.miso)
     | .fault _ => none
     | .refused _ => none) = some ([.reset (xfers true [1, 2] (zeros 2))], [], zeros 1) := by
  decide

/-- The first step from reset with a table word placed runs that request: INIT_CONFIG and FRAME_TX. -/
theorem test_withFetchWord :
    (match step (State.reset.withFetchWord 16 0x0001) with
     | .next t => some t.init
     | .fault _ => none
     | .refused _ => none) = some true ∧
    (match step (State.reset.withFetchWord 32 0x50) with
     | .next t => some t.tout
     | .fault _ => none
     | .refused _ => none) = some [0xA5, 0x01, 0x00, 0x00] := by
  decide

/-- RXBUF keeps its canonical form whatever the order of the writes. -/
theorem test_memory_canonical : Memory.write (Memory.write (Memory.write [] 5 1) 2 7) 5 9 = [(2, 7), (5, 9)] := by decide

/-- The reset state with bytes waiting in TIN. -/
def receiving (tin : List Arrival) : State := { State.reset with tin := tin }

theorem receiving_admitted (m : U32) (tin : List Arrival) : Admitted (.frameRx m) (receiving tin) :=
  ⟨rfl, rfl, fun h => by cases h⟩

/-- R206 after FR-7: RXBUF[0..3] is payload and checksum, and every index from 4 on has any value. -/
theorem test_rxRead_success :
    after (fun t => (List.range 4).map fun i => rxRead i t) (receiving (inTime [0xA5, 4, 0, 1, 2, 3, 6])) 0x0000000400000051 []
      = some [some 1, some 2, some 3, some 6] := by
  decide +kernel

/-- R206 after FR-13: RXBUF reads as free values, although two bytes were received. -/
theorem test_rxRead_noFrame :
    after (fun t => rxRead 0 t) (receiving (inTime [0xA5, 4, 0, 1, 2] ++ [.late])) 0x0000004000000051 []
      = some (some (Config.freeRxByte 1 0)) := by
  rfl

/-- A dispatcher that takes the empty payload for QueryDevice and any other for RebootProgrammer, answers 01 for a recognised
device and 00 otherwise, and sends 53 at startup. -/
def dispatcher : Dispatcher where
  maxSize := 64
  bootData := fun _ => { board := 0, startupFirst := false, startup := [0x53], descriptor := none, blocks := [] }
  command := fun _ p => if p = [] then .queryDevice else .rebootProgrammer []
  reply := fun _ _ c =>
    match c with
    | .device _ true => [1]
    | _ => [0]

/-- What a run of the controller leaves of INIT and TOUT. -/
def sentBy (o : Host.Outcome State Fault Refusal) : Option (Bool × List Byte) :=
  match o with
  | .next t => some (t.init, t.tout)
  | .fault _ => none
  | .refused _ => none

/-- R263 step 4: two polls without a frame, then QueryDevice by FRAME_RX and its answer by FRAME_TX, after the DeviceStartup
frame of program P4; the device of RD-1 is recognised. -/
theorem test_requestLoop :
    sentBy (runController dispatcher [[], [], inTime [0xA5, 1, 0, 0]] { State.reset with miso := 0 :: goodId })
      = some (true, [0xA5, 2, 0, 0x53, 0x53, 0xA5, 2, 0, 1, 1]) := by
  decide +kernel

/-- R243, R263: RebootProgrammer is not answered, and the controller boots again. -/
theorem test_reboot :
    sentBy (runController dispatcher [inTime [0xA5, 2, 0, 7, 7]] State.reset)
      = some (true, [0xA5, 2, 0, 0x53, 0x53, 0xA5, 2, 0, 0x53, 0x53]) := by
  decide +kernel

/-- R28: CLK and MOSI idle before INIT_CONFIG. -/
theorem test_pins : clkPinLevel State.reset = ri.pinIdle.clk ∧ mosiPinLevel State.reset = some ri.pinIdle.mosi := by decide

/-- R57 with the reference bit order: the most significant bit first. -/
theorem test_wireBits : wireBits ri 0xC6 = [true, true, false, false, false, true, true, false] := by decide

/-! ## Witnesses: what meets the hypotheses of each statement -/

/-- A word that decodes. -/
theorem witness_NoBitOfALegalWordIsIgnored :
    ∃ i, decode 0x0000000200001052 = .ok i :=
  ⟨.cksum 0x10 2, rfl⟩

/-- Both ends of every range of R75. -/
theorem witness_UnassignedOpIsRejected :
    State.reset.params.wf = true ∧
      ([(0x00 : U64), 0x03, 0x0F, 0x13, 0x1F, 0x22, 0x2F, 0x33, 0x3F, 0x44, 0x4F, 0x53, 0xFF].all
        fun w => unassignedOp (opField w)) = true :=
  by decide +kernel

/-- Each of the three cases of R76, by its lowest and highest bit. -/
theorem witness_ReservedFieldIsRejected :
    State.reset.params.wf = true ∧
      [(0x10010 : U64), 0x80000052].all (fun w => !unassignedOp (opField w) && rsvdField w != 0) = true ∧
      [(0x0110 : U64), 0x8031].all (fun w => !unassignedOp (opField w) && decide (opField w ∉ [(0x01 : Byte), 0x52])
        && a8Field w != 0) = true ∧
      [(0x100000001 : U64), 0x8000000000000042].all (fun w => !unassignedOp (opField w)
        && decide (opField w ∉ [(0x31 : Byte), 0x43, 0x50, 0x51, 0x52]) && nField w != 0) = true :=
  by decide +kernel

/-- One byte short, one byte too many, a byte where none belongs. -/
theorem witness_DataLengthDisagreementIsRejected :
    State.reset.params.wf = true ∧ ([1] : List Byte).length ≠ (2 : U32).toNat ∧
      ([1, 2] : List Byte).length ≠ (1 : U32).toNat ∧ ([0] : List Byte).length ≠ 0 :=
  by decide

/-- READ_ID at reset. -/
theorem witness_SpiRequestBeforeInitIsRejected :
    State.reset.params.wf = true ∧ needsInit .readId = true ∧ Instr.readId.agrees State.reset.dataIn = true ∧
      State.reset.init = false :=
  by decide

/-- READ_ID in BurstOpen, BURST_END in Idle. -/
theorem witness_OutOfSequenceRequestIsRejected :
    (Admitted .readId (ready .burstOpen []) ∧ legalIn .readId .burstOpen = false) ∧
      (Admitted .burstEnd (ready .idle []) ∧ legalIn .burstEnd .idle = false) :=
  ⟨⟨⟨by decide, by decide, by decide⟩, by decide⟩, ⟨⟨by decide, by decide, by decide⟩, by decide⟩⟩

/-- Board 0x00 at reset. -/
theorem witness_FirstInitConfigSetsUpThePins :
    State.reset.params.wf = true ∧ State.reset.dataIn = [] ∧ (State.reset.params.board 0x00).isSome = true ∧
      State.reset.init = false :=
  by decide

/-- An unknown board at reset, and a known one after INIT. -/
theorem witness_InitConfigRejections :
    State.reset.params.wf = true ∧ State.reset.dataIn = [] ∧ State.reset.params.board 0x07 = none ∧
      (ready .idle []).params.wf = true ∧ (ready .idle []).dataIn = [] ∧
      ((ready .idle []).params.board 0x00).isSome = true ∧ (ready .idle []).init = true :=
  by decide

/-- In Idle. -/
theorem witness_ProgPulseGoesLowThenHigh :
    Admitted .progPulse (ready .idle []) ∧ (ready .idle []).seq = .idle :=
  ⟨⟨by decide, by decide, by decide⟩, rfl⟩

/-- In Idle. -/
theorem witness_EnterIscSendsIscEnable :
    Admitted .enterIsc (ready .idle []) ∧ (ready .idle []).seq = .idle :=
  ⟨⟨by decide, by decide, by decide⟩, rfl⟩

/-- In IscEnabled. -/
theorem witness_BurstBeginLeavesChipSelectAsserted :
    Admitted .burstBegin (ready .iscEnabled []) ∧ (ready .iscEnabled []).seq = .iscEnabled :=
  ⟨⟨by decide, by decide, by decide⟩, rfl⟩

/-- In BurstOpen. -/
theorem witness_BurstEndReturnsTheBlockCount :
    Admitted .burstEnd (ready .burstOpen []) ∧ (ready .burstOpen []).seq = .burstOpen :=
  ⟨⟨by decide, by decide, by decide⟩, rfl⟩

/-- In each of the three states it is legal in. -/
theorem witness_ReadIdReturnsTheReceivedId :
    ∀ q ∈ [SeqState.idle, .iscEnabled, .burstClosed], Admitted .readId (ready q []) ∧ (ready q []).seq ≠ .burstOpen :=
  by intro q hq; refine ⟨⟨rfl, rfl, fun _ => rfl⟩, ?_⟩; simp at hq; rcases hq with rfl | rfl | rfl <;> decide

/-- In each of the three states it is legal in. -/
theorem witness_ReadStatusReturnsTheReceivedStatus :
    ∀ q ∈ [SeqState.idle, .iscEnabled, .burstClosed], Admitted .readStatus (ready q []) ∧ (ready q []).seq ≠ .burstOpen :=
  by intro q hq; refine ⟨⟨rfl, rfl, fun _ => rfl⟩, ?_⟩; simp at hq; rcases hq with rfl | rfl | rfl <;> decide

/-- In each of the three states it is legal in. -/
theorem witness_PollBusyRecordsTheBusyByte :
    ∀ q ∈ [SeqState.idle, .iscEnabled, .burstClosed], Admitted .pollBusy (ready q []) ∧ (ready q []).seq ≠ .burstOpen :=
  by intro q hq; refine ⟨⟨rfl, rfl, fun _ => rfl⟩, ?_⟩; simp at hq; rcases hq with rfl | rfl | rfl <;> decide

/-- In both of its states. -/
theorem witness_ExitIscSendsIscDisable :
    (Admitted .exitIsc (ready .iscEnabled []) ∧ (ready .iscEnabled []).seq = .iscEnabled) ∧
      (Admitted .exitIsc (ready .burstClosed []) ∧ (ready .burstClosed []).seq = .burstClosed) :=
  ⟨⟨⟨by decide, by decide, by decide⟩, rfl⟩, ⟨⟨by decide, by decide, by decide⟩, rfl⟩⟩

/-- A state with a data list on its port. -/
def withData (s : State) (d : List Byte) : State := { s with dataIn := d }

/-- Two bytes, and none. -/
theorem witness_BurstDataStreamsItsBytes :
    (Admitted (.burstData 2) (withData (ready .burstOpen []) [1, 2]) ∧ Admitted (.burstData 0) (ready .burstOpen [])) ∧
      (ready .burstOpen []).seq = .burstOpen :=
  ⟨⟨⟨by decide, by decide, by decide⟩, ⟨by decide, by decide, by decide⟩⟩, rfl⟩

/-- One byte in Idle. -/
theorem witness_StrayDataIsSentAndMarked :
    Admitted (.burstData 1) (withData (ready .idle []) [0xAA]) ∧ (withData (ready .idle []) [0xAA]).seq ≠ .burstOpen :=
  ⟨⟨by decide, by decide, by decide⟩, by decide⟩

/-- BURST_END, and a rejected READ_ID. -/
theorem witness_OpenBurstIsContiguous :
    (ready .burstOpen []).seq = .burstOpen ∧ (ready .burstOpen []).init = true ∧
      ((∀ n, Instr.burstEnd ≠ .burstData n) ∧ ∃ t, exec .burstEnd (ready .burstOpen []) = .next t) ∧
      ((∀ n, Instr.readId ≠ .burstData n) ∧ ∃ t, exec .readId (ready .burstOpen []) = .next t) :=
  ⟨rfl, rfl, ⟨nofun, _, rfl⟩, ⟨nofun, _, rfl⟩⟩

/-- A poll of zeros. -/
theorem witness_SessionOpenEntersTheBurst :
    Admitted .sessionOpen (ready .idle (zeros 13)) ∧ (ready .idle (zeros 13)).seq = .idle ∧
      busyThen (ready .idle (zeros 13)) 0 = false :=
  ⟨⟨by decide, by decide, by decide⟩, rfl, by decide⟩

/-- A busy byte of 0x80. -/
theorem witness_BusyGuardKeepsTheSessionClosed :
    Admitted .sessionOpen (ready .idle (0 :: busyRead)) ∧ (ready .idle (0 :: busyRead)).seq = .idle ∧
      busyThen (ready .idle (0 :: busyRead)) 0 = true :=
  ⟨⟨by decide, by decide, by decide⟩, rfl, by decide⟩

/-- From BurstOpen with a busy final poll, and from BurstClosed with none busy. -/
theorem witness_SessionCloseExitsThenPolls :
    (Admitted .sessionClose (ready .burstOpen (zeros 5 ++ busyRead)) ∧ (ready .burstOpen []).seq ≠ .idle ∧
        busyThen (ready .burstOpen (zeros 5 ++ busyRead)) 4 = true) ∧
      (Admitted .sessionClose (ready .burstClosed (zeros 9)) ∧ (ready .burstClosed []).seq ≠ .idle ∧
        busyThen (ready .burstClosed (zeros 9)) 4 = false) :=
  ⟨⟨⟨by decide, by decide, by decide⟩, by decide, by decide⟩, ⟨⟨by decide, by decide, by decide⟩, by decide, by decide⟩⟩

/-- In Idle, IscEnabled and BurstOpen. -/
theorem witness_SessionAbortEndsTheSession :
    Admitted .sessionAbort (ready .idle []) ∧ Admitted .sessionAbort (ready .iscEnabled []) ∧
      Admitted .sessionAbort (ready .burstOpen []) :=
  ⟨⟨by decide, by decide, by decide⟩, ⟨by decide, by decide, by decide⟩, ⟨by decide, by decide, by decide⟩⟩

/-- "After INIT" with two bytes to program and the coming MISO bytes. -/
def programming (miso : List Byte) : State := withData (ready .idle miso) [0xAA, 0xBB]

/-- A whitelisted ID and a not-busy first poll. -/
theorem witness_ProgramDeviceRunsTheFullSequence :
    Admitted (.programDevice 2) (programming (0 :: goodId ++ zeros 24)) ∧
      (programming (0 :: goodId ++ zeros 24)).seq = .idle ∧
      registerAt (programming (0 :: goodId ++ zeros 24)) 0 ri.readId ∈ ri.supportedIds ∧
      busyThen (programming (0 :: goodId ++ zeros 24)) (readLength ri.readId) = false :=
  ⟨⟨by decide, by decide, by decide⟩, rfl, by decide, by decide⟩

/-- The ID 0x12345678. -/
theorem witness_ProgramDeviceRefusesAnUnknownId :
    Admitted (.programDevice 2) (programming [0, 0, 0, 0, 0x12, 0x34, 0x56, 0x78]) ∧
      (programming []).seq = .idle ∧
      registerAt (programming [0, 0, 0, 0, 0x12, 0x34, 0x56, 0x78]) 0 ri.readId ∉ ri.supportedIds :=
  ⟨⟨by decide, by decide, by decide⟩, rfl, by decide⟩

/-- A whitelisted ID and a busy first poll. -/
theorem witness_ProgramDeviceStopsWhenBusy :
    Admitted (.programDevice 2) (programming (0 :: goodId ++ 0 :: busyRead)) ∧ (programming []).seq = .idle ∧
      registerAt (programming (0 :: goodId ++ 0 :: busyRead)) 0 ri.readId ∈ ri.supportedIds ∧
      busyThen (programming (0 :: goodId ++ 0 :: busyRead)) (readLength ri.readId) = true :=
  ⟨⟨by decide, by decide, by decide⟩, rfl, by decide, by decide⟩

/-- Two blocks, one of them empty. -/
theorem witness_StreamedSessionIsOneBurst :
    (ready .idle (zeros 13)).params.wf = true ∧ (ready .idle (zeros 13)).init = true ∧
      (ready .idle (zeros 13)).seq = .idle ∧ busyThen (ready .idle (zeros 13)) 0 = false ∧
      ∀ b ∈ ([[1, 2], []] : List (List Byte)), b.length < 2 ^ 32 :=
  by decide

/-- A valid descriptor with its flag off, forced. -/
theorem witness_AutoProgramNeedsForceOrTheFlag :
    ∃ valid startup force : Bool, valid = true ∧ (startup = true ∨ force = true) :=
  ⟨true, false, true, by decide⟩

/-- An open burst. -/
theorem witness_QueryDeviceEndsTheSessionFirst :
    (ready .burstOpen []).params.wf = true ∧ (ready .burstOpen []).init = true ∧ (ready .burstOpen []).seq = .burstOpen :=
  by decide

/-- The blocks of program P6: 10 20 with 0x33 declared, then 11 22. -/
theorem witness_ABlockWithABadChecksumIsNotWritten :
    State.reset.params.wf = true ∧ ([0x10, 0x20] : List Byte).length < 2 ^ 32 ∧ (0x33 : Byte) ≠ cksum [0x10, 0x20] ∧
      (0x33 : Byte) = cksum [0x11, 0x22] :=
  by decide

/-- At reset, with and without data. -/
theorem witness_CksumReturnsTheByteSum :
    Admitted (.cksum 0xFE 1) (withData State.reset [3]) ∧ Admitted (.cksum 0 0) State.reset :=
  ⟨⟨by decide, by decide, by decide⟩, ⟨by decide, by decide, by decide⟩⟩

/-- Two orders of the same bytes. -/
theorem witness_ChecksumRunsBlockByBlock :
    ([1, 2, 3] : List Byte).Perm [2, 1, 3] :=
  by decide

/-- The empty payload and the longest one. -/
theorem witness_FrameTxEmitsOneFrame :
    (Admitted (.frameTx 0) State.reset ∧ (0 : U32).toNat ≤ 65534) ∧
      (Admitted (.frameTx 65534) (withData State.reset (zeros 65534)) ∧ (65534 : U32).toNat ≤ 65534) :=
  ⟨⟨⟨by decide, by decide, by decide⟩, by decide⟩, ⟨⟨by decide, by simp only [Instr.agrees, withData, zeros, List.length_replicate]; decide, by decide⟩, by decide⟩⟩

/-- One byte too many. -/
theorem witness_FrameTxRejectsALongPayload :
    Admitted (.frameTx 65535) (withData State.reset (zeros 65535)) ∧ 65534 < (65535 : U32).toNat :=
  ⟨⟨by decide, by simp only [Instr.agrees, withData, zeros, List.length_replicate]; decide, by decide⟩, by decide⟩

/-- FR-7, where L is maxSize, and FR-9, the empty payload. -/
theorem witness_FrameRxReturnsThePayload :
    (Admitted (.frameRx 4) (receiving (inTime [0xA5, 4, 0, 1, 2, 3, 6])) ∧ (4 : U32).toNat ≤ ri.rxBufSize.toNat ∧
        (4 : Byte).toNat + 256 * (0 : Byte).toNat = ([1, 2, 3] : List Byte).length + 1 ∧
        ([1, 2, 3] : List Byte).length + 1 ≤ (4 : U32).toNat ∧
        (receiving (inTime [0xA5, 4, 0, 1, 2, 3, 6])).tin = inTime ([ri.frameMagic, 4, 0] ++ [1, 2, 3] ++ [cksum [1, 2, 3]]) ++ []) ∧
      (Admitted (.frameRx 64) (receiving (inTime [0xA5, 1, 0, 0])) ∧ (64 : U32).toNat ≤ ri.rxBufSize.toNat ∧
        (1 : Byte).toNat + 256 * (0 : Byte).toNat = ([] : List Byte).length + 1 ∧
        ([] : List Byte).length + 1 ≤ (64 : U32).toNat ∧
        (receiving (inTime [0xA5, 1, 0, 0])).tin = inTime ([ri.frameMagic, 1, 0] ++ [] ++ [cksum []]) ++ []) :=
  ⟨⟨receiving_admitted _ _, by decide, by decide, by decide, rfl⟩,
    ⟨receiving_admitted _ _, by decide, by decide, by decide, rfl⟩⟩

/-- FR-10. -/
theorem witness_FrameRxDropsABadChecksum :
    Admitted (.frameRx 64) (receiving (inTime [0xA5, 1, 0, 1])) ∧ (64 : U32).toNat ≤ ri.rxBufSize.toNat ∧
      (1 : Byte).toNat + 256 * (0 : Byte).toNat = ([] : List Byte).length + 1 ∧
      ([] : List Byte).length + 1 ≤ (64 : U32).toNat ∧ (1 : Byte) ≠ cksum [] ∧
      (receiving (inTime [0xA5, 1, 0, 1])).tin = inTime ([ri.frameMagic, 1, 0] ++ [] ++ [1]) ++ [] :=
  ⟨receiving_admitted _ _, by decide, by decide, by decide, by decide, rfl⟩

/-- Each of the five ways: FR-1, FR-2, FR-3, FR-4, FR-5 and FR-6. -/
theorem witness_FrameRxDropsABadHead :
    (64 : U32).toNat ≤ ri.rxBufSize.toNat ∧ TimesOut [] [] ∧ TimesOut [.late, .byte 1] [.byte 1] ∧
      (∀ tin, Admitted (.frameRx 64) (receiving tin)) ∧
      (receiving []).tin = [] ∧
      ((0 : Byte) ≠ ri.frameMagic ∧ (receiving (inTime [0, 0xA5])).tin = inTime [0] ++ [.byte 0xA5]) ∧
      (receiving [.byte 0xA5, .late]).tin = inTime [ri.frameMagic] ++ [.late] ∧
      (receiving [.byte 0xA5, .byte 4, .late]).tin = inTime [ri.frameMagic, 4] ++ [.late] ∧
      ((0 : Byte).toNat + 256 * (0 : Byte).toNat = 0 ∧
        (receiving (inTime [0xA5, 0, 0, 0x55])).tin = inTime [ri.frameMagic, 0, 0] ++ [.byte 0x55]) ∧
      ((64 : U32).toNat < (0x41 : Byte).toNat + 256 * (0 : Byte).toNat ∧
        (receiving (inTime [0xA5, 0x41, 0])).tin = inTime [ri.frameMagic, 0x41, 0] ++ []) :=
  ⟨by decide, .inl ⟨rfl, rfl⟩, .inr rfl, receiving_admitted _, rfl, ⟨by decide, rfl⟩, rfl, rfl, ⟨by decide, rfl⟩, by decide, rfl⟩

/-- FR-13, and a body that never starts. -/
theorem witness_FrameRxDropsAShortBody :
    Admitted (.frameRx 64) (receiving (inTime [0xA5, 4, 0, 1, 2] ++ [.late])) ∧ (64 : U32).toNat ≤ ri.rxBufSize.toNat ∧
      ([1, 2] : List Byte).length < (4 : Byte).toNat + 256 * (0 : Byte).toNat ∧
      ([] : List Byte).length < (4 : Byte).toNat + 256 * (0 : Byte).toNat ∧
      (4 : Byte).toNat + 256 * (0 : Byte).toNat ≤ (64 : U32).toNat ∧
      (receiving (inTime [0xA5, 4, 0, 1, 2] ++ [.late])).tin = inTime ([ri.frameMagic, 4, 0] ++ [1, 2]) ++ [.late] ∧
      TimesOut [.late] [] :=
  ⟨receiving_admitted _ _, by decide, by decide, by decide, by decide, rfl, .inr rfl⟩

/-- FR-19. -/
theorem witness_FrameRxRejectsAnOversizedBuffer :
    Admitted (.frameRx 65) (receiving []) ∧ ri.rxBufSize.toNat < (65 : U32).toNat :=
  ⟨receiving_admitted _ _, by decide⟩

/-- A memory in canonical form, and the last index there is. -/
theorem witness_BufferWritesReadBack :
    Memory.wf [(2, 7), (5, 9)] ∧ 63 < State.reset.params.rxBufSize.toNat :=
  by decide

/-- FT-4 fed back (FR-7). -/
theorem witness_FramesRoundTrip :
    ∃ t, exec (.frameTx 3) (withData State.reset [1, 2, 3]) = .next t ∧ Admitted (.frameTx 3) (withData State.reset [1, 2, 3]) ∧
      (3 : U32).toNat ≤ 65534 ∧ (3 : U32).toNat + 1 ≤ (64 : U32).toNat ∧ (64 : U32).toNat ≤ ri.rxBufSize.toNat ∧
      (receiving (inTime [0xA5, 4, 0, 1, 2, 3, 6])).params = (withData State.reset [1, 2, 3]).params ∧
      (receiving (inTime [0xA5, 4, 0, 1, 2, 3, 6])).dataIn = [] ∧
      (receiving (inTime [0xA5, 4, 0, 1, 2, 3, 6])).tin = inTime (t.tout.drop (withData State.reset [1, 2, 3]).tout.length) ++ [] :=
  ⟨_, rfl, ⟨by decide, by decide, by decide⟩, by decide, by decide, by decide, rfl, rfl, by decide⟩

/-- FR-11, one payload byte changed; and its checksum byte changed. -/
theorem witness_OneChangedByteIsDetected :
    Admitted (.frameRx 64) (receiving (inTime [0xA5, 4, 0, 1, 2, 4, 6])) ∧ (64 : U32).toNat ≤ ri.rxBufSize.toNat ∧
      (4 : Byte).toNat + 256 * (0 : Byte).toNat = ([1, 2] : List Byte).length + ([] : List Byte).length + 2 ∧
      ([1, 2] : List Byte).length + ([] : List Byte).length + 2 ≤ (64 : U32).toNat ∧
      ((3 : Byte) ≠ 4 ∧ (6 : Byte) = cksum ([1, 2] ++ [3] ++ [])) ∧ (7 : Byte) ≠ cksum ([1, 2] ++ [3] ++ []) ∧
      (receiving (inTime [0xA5, 4, 0, 1, 2, 4, 6])).tin =
        inTime ([ri.frameMagic, 4, 0] ++ ([1, 2] ++ [4] ++ []) ++ [6]) ++ [] :=
  ⟨receiving_admitted _ _, by decide, by decide, by decide, by decide, by decide, rfl⟩

/-- FR-10. -/
theorem witness_OneChangedByteIsDetected_emptyPayload :
    Admitted (.frameRx 1) (receiving (inTime [0xA5, 1, 0, 1])) ∧ (1 : U32).toNat ≤ ri.rxBufSize.toNat ∧ 1 ≤ (1 : U32).toNat ∧
      (1 : Byte) ≠ cksum [] ∧ (receiving (inTime [0xA5, 1, 0, 1])).tin = inTime [ri.frameMagic, 0x01, 0x00, 1] ++ [] :=
  ⟨receiving_admitted _ _, by decide, by decide, by decide, rfl⟩

/-- The reset state. -/
theorem witness_EveryRequestCompletes :
    State.reset.params.wf = true :=
  by decide

/-- One instantiation for each constraint of R7, each at its edge. -/
theorem witness_IllFormedInstantiationIsRefused :
    (∃ p : Params, p.readId.len.toNat < p.readId.off.toNat + 4) ∧ (∃ p : Params, p.readStatus.len.toNat < p.readStatus.off.toNat + 4) ∧
      (∃ p : Params, p.readBusy.len.toNat < p.readBusy.off.toNat + 1) ∧ (∃ p : Params, p.txIscEn = []) ∧
      (∃ p : Params, p.txIscDis = []) ∧ (∃ p : Params, p.txBurst = []) ∧ (∃ p : Params, p.busyMask = 0) ∧
      ∃ p : Params, p.boardTable = [] :=
  ⟨⟨{ ri with readId := { cmd := 0, len := 6, off := 3 } }, by decide⟩,
    ⟨{ ri with readStatus := { cmd := 0, len := 3, off := 0 } }, by decide⟩,
    ⟨{ ri with readBusy := { cmd := 0, len := 3, off := 3 } }, by decide⟩, ⟨{ ri with txIscEn := [] }, rfl⟩,
    ⟨{ ri with txIscDis := [] }, rfl⟩, ⟨{ ri with txBurst := [] }, rfl⟩, ⟨{ ri with busyMask := 0 }, rfl⟩,
    ⟨{ ri with boardTable := [] }, rfl⟩⟩

/-- An accepted, a rejected and an illegal word. -/
theorem witness_EveryRequestIsAnsweredOnce :
    (∃ t, issue 0x0000000000000001 [] State.reset = .next t) ∧ (∃ t, issue 0x0000000000000010 [] State.reset = .next t) ∧
      ∃ t, issue 0x0000000000000000 [] State.reset = .next t :=
  ⟨⟨_, rfl⟩, ⟨_, rfl⟩, ⟨_, rfl⟩⟩

/-- A request of class spi and one of class noinit. -/
theorem witness_CodesAreThoseOfTheTable :
    (∃ t, exec .readId State.reset = .next t) ∧ ∃ t, exec (.cksum 0 0) State.reset = .next t :=
  ⟨⟨_, rfl⟩, ⟨_, rfl⟩⟩

/-- E_SEQ, and E_NOINIT for the other three. -/
theorem witness_RejectionsHaveNoEffect :
    (∃ t, issue 0x0000000000000010 [] (ready .burstOpen []) = .next t ∧ AnsweredWith .eSeq (ready .burstOpen []) t ∧
        Code.eSeq.isRejection = true) ∧
      ∃ t, issue 0x0000000000000010 [] State.reset = .next t ∧ AnsweredWith .eNoInit State.reset t ∧
        Code.eNoInit.isRejection = true :=
  ⟨⟨_, rfl, ⟨_, rfl, by decide⟩, rfl⟩, ⟨_, rfl, ⟨_, rfl, by decide⟩, rfl⟩⟩

/-- ENTER_ISC from Idle moves SEQ. -/
theorem witness_SeqTakesOnlyLegalEdges :
    ∃ t, exec .enterIsc (ready .idle (zeros 4)) = .next t ∧ t.seq = .iscEnabled :=
  ⟨_, rfl, rfl⟩

/-- INIT_CONFIG, BURST_BEGIN, FRAME_RX and FRAME_TX each write what is theirs. -/
theorem witness_StateHasOnlyItsNamedWriters :
    (∃ t, exec (.initConfig 0) State.reset = .next t ∧ t.init ≠ State.reset.init) ∧
      (∃ t, exec .burstBegin { ready .iscEnabled (zeros 4) with bcnt := 5 } = .next t ∧ t.bcnt = 0) ∧
      (∃ t, exec (.frameRx 64) (receiving [.byte 0]) = .next t ∧ t.tin = []) ∧
      ∃ t, exec (.frameTx 0) State.reset = .next t ∧ t.tout ≠ [] :=
  ⟨⟨_, rfl, by decide⟩, ⟨_, rfl, by decide⟩, ⟨_, rfl, rfl⟩, ⟨_, rfl, by decide⟩⟩

/-- Stray data in Idle, and a busy poll. -/
theorem witness_FlagsAreStickyAndHaveNamedWriters :
    (∃ t, exec (.burstData 1) (withData (ready .idle [0]) [0xAA]) = .next t ∧ t.flags.stray ≠ (ready .idle [0]).flags.stray) ∧
      ∃ t, exec .pollBusy (ready .idle (0 :: busyRead)) = .next t ∧ t.flags.busy ≠ (ready .idle []).flags.busy :=
  ⟨⟨_, rfl, by decide⟩, ⟨_, rfl, by decide⟩⟩

/-- FRAME_TX, which appends TX events only. -/
theorem witness_TheTraceOnlyGrows :
    ∃ t, exec (.frameTx 0) State.reset = .next t ∧ t.trace ≠ [] :=
  ⟨_, rfl, by decide⟩

/-- The reset state with a request pending has the invariant and steps. -/
theorem witness_EveryStepKeepsTheInvariant :
    SeqInv (State.reset.withFetchWord 16 0x0001) ∧ ∃ t, step (State.reset.withFetchWord 16 0x0001) = .next t :=
  ⟨⟨by decide, rfl, rfl, fun _ => rfl, rfl, rfl, List.Pairwise.nil, by decide, ⟨by decide, nofun⟩, rfl, by decide⟩, ⟨_, rfl⟩⟩

/-- CKSUM with its data list. -/
theorem witness_StepRunsTheDecodedRequest :
    decode 0x0000000200001052 = .ok (.cksum 0x10 2) ∧
      { State.reset with inputs := [.request 0x0000000200001052 [1, 2]] }.inputs = .request 0x0000000200001052 [1, 2] :: [] :=
  ⟨rfl, rfl⟩

/-- Nothing pending, and bytes from the host. -/
theorem witness_IdleAndHostSteps :
    State.reset.params.wf = true ∧ State.reset.inputs = [] ∧
      { State.reset with inputs := [.hostSends [.byte 0xA5]] }.inputs = .hostSends [.byte 0xA5] :: [] :=
  ⟨rfl, rfl, rfl⟩

/-- A reset in BurstOpen. -/
theorem witness_SystemResetLeavesTheResetState :
    (ready .burstOpen []).params.wf = true ∧
      { ready .burstOpen [] with inputs := [.systemReset []] }.inputs = .systemReset [] :: [] :=
  ⟨rfl, rfl⟩

/-- A reset inside BURST_DATA. -/
theorem witness_ResetInsideARequestKeepsWhatHappened :
    { ready .burstOpen (zeros 3) with inputs := [.resetDuring 0x0000000300000031 [1, 2, 3] 2 []] }.inputs
        = .resetDuring 0x0000000300000031 [1, 2, 3] 2 [] :: [] ∧
      ∃ u, issue 0x0000000300000031 [1, 2, 3] (ready .burstOpen (zeros 3)) = .next u :=
  ⟨rfl, ⟨_, rfl⟩⟩

/-- Before and after INIT_CONFIG. -/
theorem witness_PinLevelsFollowTheState :
    State.reset.pindrv = false ∧ (ready .burstOpen []).pindrv = true ∧ csPinLevel (ready .burstOpen []) = false ∧
      csPinLevel (ready .idle []) = true :=
  by decide

end Sys2Proof.Tests
end

/-! ## What an ill-formed instantiation does (00_scope.md R7) -/

namespace Sys2Proof.Machine

theorem wf_txSequences {p : Params} (h : p.wf = true) : p.txIscEn ≠ [] ∧ p.txIscDis ≠ [] ∧ p.txBurst ≠ [] := by
  simp_all [Params.wf]

theorem wf_busyMask {p : Params} (h : p.wf = true) : p.busyMask ≠ 0 := by
  simp_all [Params.wf]

theorem wf_boardTable {p : Params} (h : p.wf = true) : p.boardTable ≠ [] := by
  simp_all [Params.wf]

/-- Every request passes the one admission procedure of R232, with its own class and data length. -/
theorem exec_eq_request (i : Instr) :
    ∃ body, ∀ s, exec i s = request (if needsInit i then .spi else .noinit) i.dataLength body s := by
  cases i <;> exact ⟨_, fun _ => rfl⟩

theorem exec_illFormed {s : State} (i : Instr) (h : s.params.wf = false) :
    exec i s = .refused .illFormedParameters := by
  obtain ⟨body, hbody⟩ := exec_eq_request i
  rw [hbody, request, accept_illFormed h]

theorem issue_illFormed {s : State} (w : U64) (d : List Byte) (h : s.params.wf = false) :
    issue w d s = .refused .illFormedParameters := by
  unfold issue
  split
  · exact accept_illFormed h _
  · exact exec_illFormed _ h

theorem serve_illFormed {s : State} (i : Input) (h : s.params.wf = false) :
    serve i s = .refused .illFormedParameters := by
  cases i with
  | request w d => exact issue_illFormed w d h
  | hostSends arrivals => exact accept_illFormed h _
  | systemReset tin => exact accept_illFormed h _
  | resetDuring w d n tin => simp only [serve, cutShort, issue_illFormed w d h]

theorem step_illFormed {s : State} (h : s.params.wf = false) : step s = .refused .illFormedParameters := by
  unfold step serveNext
  split
  · exact accept_illFormed h _
  · exact serve_illFormed _ h

/-- Settles O46: each broken constraint contradicts one consequence of well-formedness, and an ill-formed instantiation
refuses every step and every request. -/
theorem illFormedInstantiationIsRefused : Obligations.IllFormedInstantiationIsRefused := by
  intro s hbroken
  have hwf : s.params.wf = false := by
    rw [← Bool.not_eq_true]
    intro h
    obtain ⟨hen, hdis, hburst⟩ := wf_txSequences h
    rcases hbroken with hid | hst | hbusy | hnil | hnil | hnil | hmask | hboard
    · exact absurd (wf_readId h) (by omega)
    · exact absurd (wf_readStatus h) (by omega)
    · exact absurd (wf_readBusy h) (by omega)
    · exact hen hnil
    · exact hdis hnil
    · exact hburst hnil
    · exact wf_busyMask h hmask
    · exact wf_boardTable h hboard
  exact ⟨step_illFormed hwf, fun i => exec_illFormed i hwf⟩

end Sys2Proof.Machine

/-! ## What a request leaves before its response

`Runs s i u`: request `i` takes `s` to `u`, and the response then ends it. The statements about every request
(10_state.md R22-R34) are case analyses of this relation. It says which branch was taken only as far as they need it. -/

namespace Sys2Proof.Machine

/-- Everything INIT_CONFIG does before its response, once its board is known (R101). -/
def initialised (cfg : DeviceConfig) (s : State) : State :=
  { s with
    cfg := cfg, pindrv := true, progn := true, csa := false, init := true
    trace := s.trace ++ [.prog true, .cs false, .spiInit, .delay .initSettle] }

theorem initConfigWith_eq (cfg : DeviceConfig) (s : State) :
    initConfigWith cfg s = respond .ok 0 (initialised cfg s) := by
  simp [initConfigWith, initialised, progSet, csSet, spiInit, delay, emit]

/-- A busy poll under any parameters: FLAGS.BUSY is the evaluation of the byte it returns (R105). -/
theorem busyPoll_snd (s : State) :
    (busyPoll s).2 =
      { afterDraws (readLength s.params.readBusy) s with
        csa := false
        flags := { s.flags with busy := isBusy s.params (busyPoll s).1 }
        trace := s.trace ++ readWire s 0 s.params.readBusy } := by
  simp [busyPoll, rdcmd_eq, setBusy]

/-- What the body of a request of class spi leaves, by the branches of its rule, with the sequencer state it needs. -/
inductive SpiRuns (s : State) : Instr → State → Prop
  | progPulse (hq : s.seq = .idle) : SpiRuns s .progPulse (progPulse s)
  | readId (hq : s.seq ≠ .burstOpen) : SpiRuns s .readId (rdcmd s.params.readId s).2
  | readStatus (hq : s.seq ≠ .burstOpen) : SpiRuns s .readStatus (rdcmd s.params.readStatus s).2
  | pollBusy (hq : s.seq ≠ .burstOpen) : SpiRuns s .pollBusy (busyPoll s).2
  | enterIsc (hq : s.seq = .idle) : SpiRuns s .enterIsc (iscEnable s)
  | exitIsc (hq : s.seq = .iscEnabled ∨ s.seq = .burstClosed) : SpiRuns s .exitIsc (iscDisable s)
  | burstBegin (hq : s.seq = .iscEnabled) : SpiRuns s .burstBegin (burstBegin s)
  | burstData (n : U32) (hq : s.seq = .burstOpen) : SpiRuns s (.burstData n) (burstData s.dataIn s)
  | strayData (n : U32) (hq : s.seq ≠ .burstOpen) : SpiRuns s (.burstData n) (strayData s.dataIn s)
  | burstEnd (hq : s.seq = .burstOpen) : SpiRuns s .burstEnd (burstEnd s)
  | sessionOpenBusy (hq : s.seq = .idle) : SpiRuns s .sessionOpen (busyPoll s).2
  | sessionOpen (hq : s.seq = .idle) : SpiRuns s .sessionOpen (burstBegin (iscEnable (busyPoll s).2))
  | sessionClose (hq : s.seq ≠ .idle) : SpiRuns s .sessionClose (busyPoll (iscDisable (closeBurst s))).2
  | sessionAbort (hq : s.seq ≠ .idle) : SpiRuns s .sessionAbort (iscDisable (closeBurst s))
  | programUnknownId (n : U32) (hq : s.seq = .idle) :
      SpiRuns s (.programDevice n) (rdcmd s.params.readId (progPulse s)).2
  | programBusy (n : U32) (hq : s.seq = .idle) :
      SpiRuns s (.programDevice n) (busyPoll (rdcmd s.params.readId (progPulse s)).2).2
  | programDevice (n : U32) (hq : s.seq = .idle) :
      SpiRuns s (.programDevice n)
        (busyPoll (iscDisable (burstEnd (burstData s.dataIn (burstBegin (iscEnable
          (busyPoll (rdcmd s.params.readId (progPulse s)).2).2)))))).2

/-- What a run of transport writes leaves (R11, R54). -/
def transmitted (frame : List Byte) (s : State) : State :=
  { s with tout := s.tout ++ frame, trace := s.trace ++ frame.map .tx }

/-- What FRAME_RX leaves of the stream and the buffer: some of TIN is consumed, and bytes from index 0 on are written
(R203, R206). -/
def received (rest : List Arrival) (vs : List Byte) (s : State) : State :=
  { s with tin := rest, rxbuf := s.rxbuf.writes 0 vs, rxKnown := max s.rxKnown vs.length }

/-- What a request leaves before its response. -/
inductive Runs (s : State) : Instr → State → Prop
  /-- Rejected with no other effect (R234), or with nothing to do (R173, R201). -/
  | unchanged (i : Instr) : Runs s i s
  /-- Out of sequence (R233). -/
  | rejectSeq (i : Instr) : Runs s i (setSeqErr s)
  | initConfig (b : Byte) (cfg : DeviceConfig) (hi : s.init = false) : Runs s (.initConfig b) (initialised cfg s)
  | spi {i : Instr} {u : State} (hi : s.init = true) (h : SpiRuns s i u) : Runs s i u
  | frameTx (n : U32) (frame : List Byte) : Runs s (.frameTx n) (transmitted frame s)
  | frameRx (m : U32) (rest : List Arrival) (vs : List Byte) (hv : vs.length ≤ s.params.rxBufSize.toNat) :
      Runs s (.frameRx m) (received rest vs s)
  | noFrame (m : U32) (rest : List Arrival) (vs : List Byte) (hv : vs.length ≤ s.params.rxBufSize.toNat) :
      Runs s (.frameRx m) (rxForget (received rest vs s))

/-- The request is answered: its run, then one response. -/
def Answered (i : Instr) (s t : State) : Prop := ∃ u c v d, Runs s i u ∧ t = respondWith c v d u

theorem Runs.answered {i : Instr} {s u : State} (h : Runs s i u) (c : Code) (v : U32) (d : List Byte) :
    Answered i s (respondWith c v d u) := ⟨u, c, v, d, h, rfl⟩

theorem answered_inSequence {i : Instr} {legal : SeqState → Bool} {f : State → State} {s : State}
    (hf : legal s.seq = true → Answered i s (f s)) : Answered i s (inSequence legal f s) := by
  rcases inSequence_cases legal f s with ⟨-, h⟩ | ⟨hl, h⟩
  · rw [h]; exact (Runs.rejectSeq i).answered _ _ _
  · rw [h]; exact hf hl

theorem answered_spi {i : Instr} {n : Nat} {f : State → State} {s t : State}
    (h : request .spi n (completes f) s = .next t) (hf : s.init = true → Answered i s (f s)) : Answered i s t := by
  rcases spi_next h with rfl | ⟨-, rfl⟩ | ⟨-, -, hi, rfl⟩
  · exact (Runs.unchanged i).answered _ _ _
  · exact (Runs.unchanged i).answered _ _ _
  · exact hf hi

/-- A request of class spi whose body is guarded by SEQ. -/
theorem answered_spi_inSequence {i : Instr} {n : Nat} {legal : SeqState → Bool} {f : State → State} {s t : State}
    (h : request .spi n (completes (inSequence legal f)) s = .next t)
    (hf : s.init = true → legal s.seq = true → Answered i s (f s)) : Answered i s t :=
  answered_spi h fun hi => answered_inSequence (hf hi)

theorem answered_noinit {i : Instr} {n : Nat} {f : State → State} {s t : State}
    (h : request .noinit n (completes f) s = .next t) (hf : Answered i s (f s)) : Answered i s t := by
  rcases noinit_next h with rfl | ⟨-, -, rfl⟩
  · exact (Runs.unchanged i).answered _ _ _
  · exact hf

/-! ### Each request -/

theorem answered_initConfig {b : Byte} {s t : State} (h : exec (.initConfig b) s = .next t) :
    Answered (.initConfig b) s t := by
  refine answered_noinit h ?_
  split
  · exact (Runs.unchanged _).answered _ _ _
  next cfg _ =>
    cases hi : s.init
    · simp only [Bool.false_eq_true, if_false, initConfigWith_eq]
      exact (Runs.initConfig b cfg hi).answered _ _ _
    · exact (Runs.rejectSeq _).answered _ _ _

theorem answered_burstData {n : U32} {s t : State} (h : exec (.burstData n) s = .next t) :
    Answered (.burstData n) s t := by
  refine answered_spi h fun hi => ?_
  split
  next hq => exact (Runs.spi hi (.burstData n hq)).answered _ _ _
  next hq => exact (Runs.spi hi (.strayData n hq)).answered _ _ _

theorem answered_sessionOpen {s t : State} (h : exec .sessionOpen s = .next t) : Answered .sessionOpen s t := by
  refine answered_spi_inSequence h fun hi hq => ?_
  have hq : s.seq = .idle := by simpa using hq
  dsimp only
  split
  · exact (Runs.spi hi (.sessionOpenBusy hq)).answered _ _ _
  · exact (Runs.spi hi (.sessionOpen hq)).answered _ _ _

/-- SESSION_ABORT disables ISC mode unless SEQ is Idle (R173). -/
theorem sessionAbort_cases (s : State) :
    (if (closeBurst s).seq = .iscEnabled ∨ (closeBurst s).seq = .burstClosed then iscDisable (closeBurst s)
      else closeBurst s) = if s.seq = .idle then s else iscDisable (closeBurst s) := by
  cases hq : s.seq <;> simp [closeBurst_eq, hq]

theorem answered_sessionAbort {s t : State} (h : exec .sessionAbort s = .next t) : Answered .sessionAbort s t := by
  refine answered_spi h fun hi => ?_
  simp only [sessionAbort_cases]
  split
  · exact (Runs.unchanged _).answered _ _ _
  next hq => exact (Runs.spi hi (.sessionAbort hq)).answered _ _ _

theorem answered_programDevice {n : U32} {s t : State} (h : exec (.programDevice n) s = .next t) :
    Answered (.programDevice n) s t := by
  refine answered_spi_inSequence h fun hi hq => ?_
  have hq : s.seq = .idle := by simpa using hq
  dsimp only
  split
  · split
    · exact (Runs.spi hi (.programBusy n hq)).answered _ _ _
    · exact (Runs.spi hi (.programDevice n hq)).answered _ _ _
  · exact (Runs.spi hi (.programUnknownId n hq)).answered _ _ _

theorem twrites_append (as bs : List Byte) (s : State) : twrites (as ++ bs) s = twrites bs (twrites as s) := by
  induction as generalizing s with
  | nil => rfl
  | cons a as ih => exact ih _

/-- FRAME_TX sends some bytes, whatever they are (R202). -/
theorem frameTx_transmitted (n : U32) (s : State) :
    ∃ v frame, frameTx n s = respond .ok v (transmitted frame s) := by
  let len : U16 := n.setWidth 16 + 1
  have h : frameTx n s = respond .ok (frameValue (cksum s.dataIn) (len - 1))
      (twrites ([s.params.frameMagic, len.extractLsb' 0 8, len.extractLsb' 8 8] ++ s.dataIn ++ [cksum s.dataIn]) s) := by
    rw [twrites_append, twrites_append]
    rfl
  exact ⟨_, _, h.trans (by rw [twrites_eq, transmitted])⟩

theorem answered_frameTx {n : U32} {s t : State} (h : exec (.frameTx n) s = .next t) : Answered (.frameTx n) s t := by
  refine answered_noinit h ?_
  split
  · exact (Runs.unchanged _).answered _ _ _
  · obtain ⟨v, frame, htx⟩ := frameTx_transmitted n s
    rw [htx]
    exact (Runs.frameTx n frame).answered _ _ _

/-! ### FRAME_RX -/

/-- Transport reads only: some of TIN is consumed, and nothing else changes. -/
def Consumes (s t : State) : Prop := ∃ rest, t = { s with tin := rest }

theorem Consumes.trans {s t u : State} (h : Consumes s t) (h' : Consumes t u) : Consumes s u := by
  obtain ⟨rest, rfl⟩ := h
  obtain ⟨rest', rfl⟩ := h'
  exact ⟨rest', rfl⟩

theorem consumes_tread (tc : Timeout) (s : State) : Consumes s (tread tc s).2 := by
  unfold tread
  split
  · exact ⟨s.tin, rfl⟩
  · exact ⟨_, rfl⟩
  · exact ⟨_, rfl⟩

theorem consumes_rxLength (s : State) : Consumes s (rxLength s).2 := by
  unfold rxLength
  have hlo := consumes_tread .len s
  split
  next heq => rwa [heq] at hlo
  next s1 heq =>
    rw [heq] at hlo
    have hhi := consumes_tread .len s1
    split
    next heq' => rw [heq'] at hhi; exact hlo.trans hhi
    next heq' => rw [heq'] at hhi; exact hlo.trans hhi

theorem consumes_rxHead (s : State) : Consumes s (rxHead s).2 := by
  unfold rxHead
  have hmagic := consumes_tread .zero s
  split
  next heq => rwa [heq] at hmagic
  next s1 heq =>
    rw [heq] at hmagic
    split
    · exact hmagic.trans (consumes_rxLength s1)
    · exact hmagic

/-- The body loop from index 0 leaves the bytes that arrived in time, whether or not a read times out (R203). -/
theorem rxBody_cases (count : Nat) (s : State) (hr : count ≤ s.params.rxBufSize.toNat) :
    ∃ rest vs, vs.length ≤ count ∧
      (rxBody count 0 s = .complete (received rest vs s) ∨ rxBody count 0 s = .timedOut (received rest vs s)) := by
  rcases tin_cases count s.tin with ⟨vs, rest, rfl, ht⟩ | ⟨vs, tail, rest, hlt, ht, hto⟩
  · exact ⟨rest, vs, le_rfl, .inl (by simpa [received] using rxBody_complete vs 0 s rest ht (by omega) (by omega))⟩
  · exact ⟨rest, vs, hlt.le, .inr (by
      simpa [received] using rxBody_timedOut vs count 0 s tail rest ht hto hlt (by omega) (by omega))⟩

theorem rxFinish_cases {len : Nat} {s t : State} (h : rxFinish len s = .next t) :
    (∃ v d, t = respondWith .ok v d s) ∨ t = noFrame s := by
  unfold rxFinish at h
  split at h
  · split at h
    · cases h; exact .inl ⟨_, _, rfl⟩
    · cases h; exact .inr rfl
  · cases h
  · cases h

/-- A NOFRAME before any byte is written. -/
theorem Consumes.answered_noFrame {m : U32} {s t : State} (h : Consumes s t) :
    Answered (.frameRx m) s (noFrame t) := by
  obtain ⟨rest, rfl⟩ := h
  have hrun := Runs.noFrame (s := s) m rest [] (Nat.zero_le _)
  exact hrun.answered _ _ _

theorem answered_frameRx {m : U32} {s t : State} (h : exec (.frameRx m) s = .next t) : Answered (.frameRx m) s t := by
  unfold exec execFrameRx at h
  obtain ⟨-, h | h | ⟨-, -, h⟩⟩ := request_next h
  · rw [h.2]; exact (Runs.unchanged _).answered _ _ _
  · cases h.1
  split at h
  · cases h; exact (Runs.unchanged _).answered _ _ _
  next hm =>
    have hhead := consumes_rxHead s
    unfold frameRx at h
    split at h
    next heq => cases h; rw [heq] at hhead; exact hhead.answered_noFrame
    next len s1 heq =>
      rw [heq] at hhead
      split at h
      · cases h; exact hhead.answered_noFrame
      next hlen =>
        obtain ⟨rest, rfl⟩ := hhead
        obtain ⟨rest', vs, hvs, hbody⟩ :=
          rxBody_cases len.toNat { s with tin := rest } (by show len.toNat ≤ s.params.rxBufSize.toNat; omega)
        have hv : vs.length ≤ s.params.rxBufSize.toNat := by omega
        rcases hbody with hbody | hbody <;> simp only [hbody] at h
        · rcases rxFinish_cases h with ⟨v, d, rfl⟩ | rfl
          · exact (Runs.frameRx m rest' vs hv).answered _ _ _
          · exact (Runs.noFrame m rest' vs hv).answered _ _ _
        · cases h
          exact (Runs.noFrame m rest' vs hv).answered _ _ _

/-- Every completed request is a run and one response. -/
theorem exec_answered {i : Instr} {s t : State} (h : exec i s = .next t) : Answered i s t := by
  cases i with
  | initConfig b => exact answered_initConfig h
  | progPulse =>
    exact answered_spi_inSequence h fun hi hq => (Runs.spi hi (.progPulse (by simpa using hq))).answered _ _ _
  | readId =>
    exact answered_spi h fun hi => answered_inSequence fun hq =>
      (Runs.spi hi (.readId (by simpa using hq))).answered _ _ _
  | readStatus =>
    exact answered_spi h fun hi => answered_inSequence fun hq =>
      (Runs.spi hi (.readStatus (by simpa using hq))).answered _ _ _
  | pollBusy =>
    exact answered_spi_inSequence h fun hi hq => (Runs.spi hi (.pollBusy (by simpa using hq))).answered _ _ _
  | enterIsc =>
    exact answered_spi_inSequence h fun hi hq => (Runs.spi hi (.enterIsc (by simpa using hq))).answered _ _ _
  | exitIsc =>
    exact answered_spi_inSequence h fun hi hq => (Runs.spi hi (.exitIsc (by simpa using hq))).answered _ _ _
  | burstBegin =>
    exact answered_spi_inSequence h fun hi hq => (Runs.spi hi (.burstBegin (by simpa using hq))).answered _ _ _
  | burstData n => exact answered_burstData h
  | burstEnd =>
    exact answered_spi_inSequence h fun hi hq => (Runs.spi hi (.burstEnd (by simpa using hq))).answered _ _ _
  | sessionOpen => exact answered_sessionOpen h
  | sessionClose =>
    exact answered_spi_inSequence h fun hi hq => (Runs.spi hi (.sessionClose (by simpa using hq))).answered _ _ _
  | sessionAbort => exact answered_sessionAbort h
  | programDevice n => exact answered_programDevice h
  | frameTx n => exact answered_frameTx h
  | frameRx m => exact answered_frameRx h
  | cksum seed n => exact answered_noinit h ((Runs.unchanged _).answered _ _ _)

@[simp] theorem closeBurst_bcnt (s : State) : (closeBurst s).bcnt = s.bcnt := by
  rw [closeBurst_eq]; split <;> rfl

@[simp] theorem closeBurst_progn (s : State) : (closeBurst s).progn = s.progn := by
  rw [closeBurst_eq]; split <;> rfl

@[simp] theorem closeBurst_flags (s : State) : (closeBurst s).flags = s.flags := by
  rw [closeBurst_eq]; split <;> rfl

/-! ### The sequencer -/

/-- The edges of R25 that a body of class spi takes. -/
theorem SpiRuns.seq_moves {i : Instr} {s u : State} (h : SpiRuns s i u) :
    u.seq = s.seq ∨ (s.seq, u.seq) ∈ seqMoves i := by
  cases h with
  | exitIsc hq => rcases hq with hq | hq <;> simp [iscDisable_eq, seqMoves, hq]
  | sessionClose hq => cases hs : s.seq <;> simp_all [busyPoll_snd, iscDisable_eq, seqMoves]
  | sessionAbort hq => cases hs : s.seq <;> simp_all [iscDisable_eq, seqMoves]
  | _ => simp_all [progPulse_eq, rdcmd_eq, busyPoll_snd, iscEnable_eq, iscDisable_eq, burstBegin_eq, burstData_eq,
      strayData_eq, burstEnd_eq, seqMoves]

/-- The CS column of R24. -/
theorem SpiRuns.csInBurst {i : Instr} {s u : State} (h : SpiRuns s i u) (hs : s.csa = true ↔ s.seq = .burstOpen) :
    u.csa = true ↔ u.seq = .burstOpen := by
  cases h <;> simp_all [progPulse_eq, rdcmd_eq, busyPoll_snd, iscEnable_eq, iscDisable_eq, burstBegin_eq, burstData_eq,
      strayData_eq, burstEnd_eq]

theorem SpiRuns.progHigh {i : Instr} {s u : State} (h : SpiRuns s i u) (hs : s.progn = true) : u.progn = true := by
  cases h <;> simp [progPulse_eq, rdcmd_eq, busyPoll_snd, iscEnable_eq, iscDisable_eq, burstBegin_eq, burstData_eq,
      strayData_eq, burstEnd_eq, hs]

theorem SpiRuns.bcnt_writers {i : Instr} {s u : State} (h : SpiRuns s i u) :
    i = .burstBegin ∨ (∃ n, i = .burstData n) ∨ i = .sessionOpen ∨ (∃ n, i = .programDevice n) ∨ u.bcnt = s.bcnt := by
  cases h <;> simp [progPulse_eq, rdcmd_eq, busyPoll_snd, iscEnable_eq, iscDisable_eq, burstEnd_eq]

/-- What a body of class spi does to FLAGS: SEQERR is left, STRAY is set by stray data only (R152), and BUSY is written
by polls only (R31). -/
theorem SpiRuns.flags_writers {i : Instr} {s u : State} (h : SpiRuns s i u) :
    u.flags.seqErr = s.flags.seqErr ∧
    (u.flags.stray = s.flags.stray ∨ u.flags.stray = true ∧ (∃ n, i = .burstData n) ∧ s.seq ≠ .burstOpen) ∧
    (u.flags.busy = s.flags.busy ∨
      i = .pollBusy ∨ i = .sessionOpen ∨ i = .sessionClose ∨ ∃ n, i = .programDevice n) := by
  cases h <;> simp_all [progPulse_eq, rdcmd_eq, busyPoll_snd, iscEnable_eq, iscDisable_eq, burstBegin_eq, burstData_eq,
    strayData_eq, burstEnd_eq]

/-! ## What a request appends -/

/-- The output levels that the state holds. -/
def levels (s : State) : Pins := { cs := s.csa, prog := s.progn }

/-- From `s` to `u` events were appended that lead from the levels of `s` to those of `u` (R11, R33), and TOUT grew by
the bytes they transmit (R34). -/
def Appends (s u : State) : Prop :=
  ∃ es, u.trace = s.trace ++ es ∧ replay (levels s) es = some (levels u) ∧ u.tout = s.tout ++ txBytes es

theorem Appends.refl (s : State) : Appends s s := ⟨[], by simp, rfl, by simp [txBytes]⟩

theorem Appends.trans {s t u : State} (h : Appends s t) (h' : Appends t u) : Appends s u := by
  obtain ⟨es, htr, hrep, hout⟩ := h
  obtain ⟨es', htr', hrep', hout'⟩ := h'
  exact ⟨es ++ es', by rw [htr', htr, List.append_assoc], by rw [replay_append, hrep, Option.bind_some, hrep'],
    by rw [hout', hout, txBytes_append, List.append_assoc]⟩

theorem replay_map_tx (p : Pins) (bs : List Byte) : replay p (bs.map .tx) = some p := by
  induction bs with
  | nil => rfl
  | cons b bs ih => exact ih

/-- A command transaction, and so a read transaction, leaves chip-select deasserted (R81, R82). -/
theorem replay_cmdWire (p : Pins) (s : State) (k : Nat) (l : List Byte) :
    replay p (cmdWire s k l) = some { p with cs := false } := by
  have h := replay_xferEvents { p with cs := true } (misoAt s) k l
  simp only [cmdWire, replay_append, replay, Option.bind_some, h]

@[simp] theorem txBytes_cmdWire (s : State) (k : Nat) (l : List Byte) : txBytes (cmdWire s k l) = [] := by
  simp [cmdWire, txBytes_append, txBytes]

theorem readWire_eq_cmdWire (s : State) (k : Nat) (c : ReadCmd) :
    readWire s k c = cmdWire s k (c.cmd :: List.replicate c.len.toNat s.params.fill) := rfl

/-- The opening of a burst leaves chip-select asserted (R82). -/
theorem replay_burstWire (p : Pins) (s : State) (k : Nat) :
    replay p (burstWire s k) = some { p with cs := true } := by
  have h := replay_xferEvents { p with cs := true } (misoAt s) k s.params.txBurst
  simp only [burstWire, replay_append, replay, Option.bind_some, h]

/-- `s` with everything blanked that a body of class spi may write. -/
def withoutSpi (s : State) : State :=
  { s with
    seq := .idle, csa := false, progn := true, bcnt := 0
    flags := { seqErr := false, stray := false, busy := false }, trace := [], miso := [], misoCount := 0 }

/-- What every SPI procedure does: it appends events to the trace and writes what `withoutSpi` blanks. -/
structure SpiEffect (s u : State) : Prop where
  appends : Appends s u
  frame : withoutSpi u = withoutSpi s

theorem SpiEffect.refl (s : State) : SpiEffect s s := ⟨.refl s, rfl⟩

theorem SpiEffect.trans {s t u : State} (h : SpiEffect s t) (h' : SpiEffect t u) : SpiEffect s u :=
  ⟨h.appends.trans h'.appends, h'.frame.trans h.frame⟩

section
variable {s u : State} (h : SpiEffect s u)
include h

theorem SpiEffect.cfg : u.cfg = s.cfg := (congrArg State.cfg h.frame :)
theorem SpiEffect.init : u.init = s.init := (congrArg State.init h.frame :)
theorem SpiEffect.pindrv : u.pindrv = s.pindrv := (congrArg State.pindrv h.frame :)
theorem SpiEffect.rxbuf : u.rxbuf = s.rxbuf := (congrArg State.rxbuf h.frame :)
theorem SpiEffect.rxKnown : u.rxKnown = s.rxKnown := (congrArg State.rxKnown h.frame :)
theorem SpiEffect.rxFresh : u.rxFresh = s.rxFresh := (congrArg State.rxFresh h.frame :)
theorem SpiEffect.tin : u.tin = s.tin := (congrArg State.tin h.frame :)
theorem SpiEffect.tout : u.tout = s.tout := (congrArg State.tout h.frame :)
theorem SpiEffect.params : u.params = s.params := (congrArg State.params h.frame :)
theorem SpiEffect.inputs : u.inputs = s.inputs := (congrArg State.inputs h.frame :)
theorem SpiEffect.reqIndex : u.reqIndex = s.reqIndex := (congrArg State.reqIndex h.frame :)
theorem SpiEffect.log : u.log = s.log := (congrArg State.log h.frame :)

end

theorem spiEffect_progPulse (s : State) : SpiEffect s (progPulse s) := by
  rw [progPulse_eq]
  exact ⟨⟨pulseWire, rfl, rfl, by simp [pulseWire, txBytes]⟩, rfl⟩

theorem spiEffect_rdcmd (c : ReadCmd) (s : State) : SpiEffect s (rdcmd c s).2 := by
  rw [rdcmd_eq, readWire_eq_cmdWire]
  exact ⟨⟨_, rfl, replay_cmdWire _ _ _ _, by simp⟩, rfl⟩

theorem spiEffect_busyPoll (s : State) : SpiEffect s (busyPoll s).2 :=
  (spiEffect_rdcmd s.params.readBusy s).trans ⟨⟨[], by simp [busyPoll], rfl, by simp [busyPoll, txBytes]⟩, rfl⟩

theorem spiEffect_iscEnable (s : State) : SpiEffect s (iscEnable s) := by
  rw [iscEnable_eq]
  exact ⟨⟨_, rfl, replay_cmdWire _ _ _ _, by simp⟩, rfl⟩

theorem spiEffect_iscDisable (s : State) : SpiEffect s (iscDisable s) := by
  rw [iscDisable_eq]
  exact ⟨⟨_, rfl, replay_cmdWire _ _ _ _, by simp⟩, rfl⟩

theorem spiEffect_burstBegin (s : State) : SpiEffect s (burstBegin s) := by
  rw [burstBegin_eq]
  exact ⟨⟨_, rfl, replay_burstWire _ _ _, by simp [burstWire, txBytes]⟩, rfl⟩

theorem spiEffect_burstData (d : List Byte) (s : State) : SpiEffect s (burstData d s) := by
  rw [burstData_eq]
  exact ⟨⟨_, rfl, replay_xferEvents (levels s) _ _ _, by simp⟩, rfl⟩

theorem spiEffect_strayData (d : List Byte) (s : State) : SpiEffect s (strayData d s) := by
  rw [strayData_eq]
  exact ⟨⟨_, rfl, replay_xferEvents (levels s) _ _ _, by simp⟩, rfl⟩

theorem spiEffect_burstEnd (s : State) : SpiEffect s (burstEnd s) := by
  rw [burstEnd_eq]
  exact ⟨⟨closeWire, rfl, rfl, by simp [closeWire, txBytes]⟩, rfl⟩

theorem spiEffect_closeBurst (s : State) : SpiEffect s (closeBurst s) := by
  unfold closeBurst
  split
  · exact spiEffect_burstEnd s
  · exact .refl s

/-- The opening half of PROGRAM_DEVICE: the pulse and the ID read (R174). -/
theorem spiEffect_idRead (s : State) : SpiEffect s (rdcmd s.params.readId (progPulse s)).2 :=
  (spiEffect_progPulse s).trans (spiEffect_rdcmd _ _)

/-- A body of class spi is a chain of SPI procedures. -/
theorem SpiRuns.effect {i : Instr} {s u : State} (h : SpiRuns s i u) : SpiEffect s u := by
  cases h with
  | progPulse => exact spiEffect_progPulse s
  | readId => exact spiEffect_rdcmd _ s
  | readStatus => exact spiEffect_rdcmd _ s
  | pollBusy => exact spiEffect_busyPoll s
  | enterIsc => exact spiEffect_iscEnable s
  | exitIsc => exact spiEffect_iscDisable s
  | burstBegin => exact spiEffect_burstBegin s
  | burstData => exact spiEffect_burstData _ s
  | strayData => exact spiEffect_strayData _ s
  | burstEnd => exact spiEffect_burstEnd s
  | sessionOpenBusy => exact spiEffect_busyPoll s
  | sessionOpen => exact ((spiEffect_busyPoll s).trans (spiEffect_iscEnable _)).trans (spiEffect_burstBegin _)
  | sessionClose => exact ((spiEffect_closeBurst s).trans (spiEffect_iscDisable _)).trans (spiEffect_busyPoll _)
  | sessionAbort => exact (spiEffect_closeBurst s).trans (spiEffect_iscDisable _)
  | programUnknownId => exact spiEffect_idRead s
  | programBusy => exact (spiEffect_idRead s).trans (spiEffect_busyPoll _)
  | programDevice =>
    have hopen := ((spiEffect_idRead s).trans (spiEffect_busyPoll _)).trans (spiEffect_iscEnable _)
    have hburst := ((hopen.trans (spiEffect_burstBegin _)).trans (spiEffect_burstData s.dataIn _)).trans
      (spiEffect_burstEnd _)
    exact (hburst.trans (spiEffect_iscDisable _)).trans (spiEffect_busyPoll _)

theorem Runs.appends {i : Instr} {s u : State} (h : Runs s i u) : Appends s u := by
  cases h with
  | initConfig b cfg => exact ⟨_, rfl, rfl, by simp [initialised, txBytes]⟩
  | spi _ h => exact h.effect.appends
  | frameTx n frame => exact ⟨_, rfl, replay_map_tx _ _, by simp [transmitted]⟩
  | _ => exact ⟨[], (List.append_nil _).symm, rfl, (List.append_nil _).symm⟩

/-! ## The statements about every request -/

theorem Runs.seq_moves {i : Instr} {s u : State} (h : Runs s i u) : u.seq = s.seq ∨ (s.seq, u.seq) ∈ seqMoves i := by
  cases h with
  | spi _ h => exact h.seq_moves
  | _ => exact .inl rfl

/-- Settles O50: the response leaves SEQ as the request's run does, and only a body of class spi moves it. -/
theorem seqTakesOnlyLegalEdges : Obligations.SeqTakesOnlyLegalEdges := by
  intro s t i h
  obtain ⟨u, c, v, d, hrun, rfl⟩ := exec_answered h
  exact hrun.seq_moves

/-- CFG, INIT and PINDRV (R22, R23, R28). -/
theorem Runs.config_writers {i : Instr} {s u : State} (h : Runs s i u) :
    (∃ b, i = .initConfig b) ∨ (u.cfg = s.cfg ∧ u.init = s.init ∧ u.pindrv = s.pindrv) := by
  cases h with
  | initConfig b => exact .inl ⟨b, rfl⟩
  | spi _ h =>
    exact .inr ⟨h.effect.cfg, h.effect.init, h.effect.pindrv⟩
  | _ => exact .inr ⟨rfl, rfl, rfl⟩

/-- BCNT (R26). -/
theorem Runs.bcnt_writers {i : Instr} {s u : State} (h : Runs s i u) :
    i = .burstBegin ∨ (∃ n, i = .burstData n) ∨ i = .sessionOpen ∨ (∃ n, i = .programDevice n) ∨ u.bcnt = s.bcnt := by
  cases h with
  | spi _ h => exact h.bcnt_writers
  | _ => exact .inr (.inr (.inr (.inr rfl)))

/-- RXBUF and TIN (R32, R34). -/
theorem Runs.rx_writers {i : Instr} {s u : State} (h : Runs s i u) :
    (∃ m, i = .frameRx m) ∨
      (u.rxbuf = s.rxbuf ∧ u.rxKnown = s.rxKnown ∧ u.rxFresh = s.rxFresh ∧ u.tin = s.tin) := by
  cases h with
  | spi _ h =>
    exact .inr ⟨h.effect.rxbuf, h.effect.rxKnown, h.effect.rxFresh, h.effect.tin⟩
  | frameRx m => exact .inl ⟨m, rfl⟩
  | noFrame m => exact .inl ⟨m, rfl⟩
  | _ => exact .inr ⟨rfl, rfl, rfl, rfl⟩

/-- TOUT (R34). -/
theorem Runs.tout_writers {i : Instr} {s u : State} (h : Runs s i u) : (∃ n, i = .frameTx n) ∨ u.tout = s.tout := by
  cases h with
  | spi _ h => exact .inr h.effect.tout
  | frameTx n => exact .inl ⟨n, rfl⟩
  | _ => exact .inr rfl

/-- The parameters and the pending moves (R38). -/
theorem Runs.params_inputs {i : Instr} {s u : State} (h : Runs s i u) : u.params = s.params ∧ u.inputs = s.inputs := by
  cases h with
  | spi _ h => exact ⟨h.effect.params, h.effect.inputs⟩
  | _ => exact ⟨rfl, rfl⟩

/-- Settles O51: part by part, the branches of a run that write it. -/
theorem stateHasOnlyItsNamedWriters : Obligations.StateHasOnlyItsNamedWriters := by
  intro s t i h
  obtain ⟨u, c, v, d, hrun, rfl⟩ := exec_answered h
  exact ⟨hrun.config_writers, hrun.bcnt_writers, hrun.rx_writers, hrun.tout_writers, hrun.params_inputs⟩

/-- SEQERR and STRAY, once set, stay set, and INIT too; STRAY and BUSY have their writers (R30, R31). -/
theorem Runs.flags_writers {i : Instr} {s u : State} (h : Runs s i u) :
    (s.flags.seqErr = true → u.flags.seqErr = true) ∧
    (u.flags.stray = s.flags.stray ∨ u.flags.stray = true ∧ (∃ n, i = .burstData n) ∧ s.seq ≠ .burstOpen) ∧
    (u.flags.busy = s.flags.busy ∨
      i = .pollBusy ∨ i = .sessionOpen ∨ i = .sessionClose ∨ ∃ n, i = .programDevice n) := by
  cases h with
  | rejectSeq => exact ⟨fun _ => rfl, .inl rfl, .inl rfl⟩
  | spi _ h =>
    obtain ⟨hseqErr, hstray, hbusy⟩ := h.flags_writers
    exact ⟨hseqErr.trans, hstray, hbusy⟩
  | _ => exact ⟨id, .inl rfl, .inl rfl⟩

/-- No request clears INIT (R23). -/
theorem Runs.init_sticky {i : Instr} {s u : State} (h : Runs s i u) (hs : s.init = true) : u.init = true := by
  cases h with
  | initConfig => rfl
  | spi _ h => exact h.effect.init.trans hs
  | _ => exact hs

/-- Settles O52: each branch of a run leaves the flags, sets SEQERR, or is a body of class spi. -/
theorem flagsAreStickyAndHaveNamedWriters : Obligations.FlagsAreStickyAndHaveNamedWriters := by
  intro s t i h
  obtain ⟨u, c, v, d, hrun, rfl⟩ := exec_answered h
  obtain ⟨hseqErr, hstray, hbusy⟩ := hrun.flags_writers
  refine ⟨hseqErr, fun hs => ?_, hrun.init_sticky, fun hne => (hstray.resolve_left hne).2, hbusy.resolve_left⟩
  rcases hstray with h' | ⟨h', -⟩
  · exact h'.trans hs
  · exact h'

/-- Only INIT_CONFIG and the requests of class spi reach the SPI and GPIO record (R267). -/
theorem Runs.wireTrace_eq {i : Instr} {s u : State} (h : Runs s i u) :
    (∃ b, i = .initConfig b) ∨ needsInit i = true ∨ wireTrace u = wireTrace s := by
  cases h with
  | initConfig b => exact .inl ⟨b, rfl⟩
  | spi _ h => cases h <;> exact .inr (.inl rfl)
  | frameTx n frame => exact .inr (.inr (by simp [wireTrace, transmitted]))
  | _ => exact .inr (.inr rfl)

/-- Settles O53: every run appends to the trace, and a run of the framer no event of the SPI and GPIO record. -/
theorem theTraceOnlyGrows : Obligations.TheTraceOnlyGrows := by
  intro s t i h
  obtain ⟨u, c, v, d, hrun, rfl⟩ := exec_answered h
  obtain ⟨es, htrace, -⟩ := hrun.appends
  refine ⟨⟨es, htrace⟩, fun hframer => ?_⟩
  have hwire : wireTrace u = wireTrace s := by
    rcases hframer with ⟨n, rfl⟩ | ⟨m, rfl⟩ | ⟨seed, n, rfl⟩ <;> simpa [needsInit] using hrun.wireTrace_eq
  exact hwire

/-! ## The invariant -/

theorem Appends.traceLevels {s u : State} {p : Pins} (h : Appends s u) (hs : replay p s.trace = some (levels s)) :
    replay p u.trace = some (levels u) := by
  obtain ⟨es, htrace, hrep, -⟩ := h
  rw [htrace, replay_append, hs, Option.bind_some, hrep]

theorem Appends.toutEnds {s u : State} (h : Appends s u) (hs : txBytes s.trace <:+ s.tout) :
    txBytes u.trace <:+ u.tout := by
  obtain ⟨es, htrace, -, hout⟩ := h
  obtain ⟨before, hbefore⟩ := hs
  exact ⟨before, by rw [htrace, hout, txBytes_append, ← hbefore, List.append_assoc]⟩

/-- The invariant while a request runs: the data port may be in use (R52). -/
def RunInv (s : State) : Prop := SeqInv { s with dataIn := [] }

theorem initialised_runInv {cfg : DeviceConfig} {s : State} (hi : s.init = false) (ha : Appends s (initialised cfg s))
    (hs : RunInv s) : RunInv (initialised cfg s) := by
  have hidle : s.seq = .idle := hs.idleBeforeInit hi
  exact { hs with
    csInBurst := by simp [initialised, hidle]
    pinsDriven := rfl
    progHigh := rfl
    idleBeforeInit := fun _ => hidle
    traceLevels := ha.traceLevels hs.traceLevels
    toutEnds := ha.toutEnds hs.toutEnds }

theorem SpiRuns.runInv {i : Instr} {s u : State} (h : SpiRuns s i u) (hi : s.init = true) (hs : RunInv s) :
    RunInv u := by
  have he := h.effect
  exact {
    csInBurst := h.csInBurst hs.csInBurst
    pinsDriven := by simpa [he.init, he.pindrv] using hs.pinsDriven
    progHigh := h.progHigh hs.progHigh
    idleBeforeInit := fun hu => by simp [he.init, hi] at hu
    portFree := rfl
    traceLevels := he.appends.traceLevels hs.traceLevels
    rxCanonical := by simpa only [he.rxbuf] using hs.rxCanonical
    rxInRange := by simpa only [he.rxbuf, he.params] using hs.rxInRange
    rxKnownListed := by simpa only [he.rxbuf, he.rxKnown, he.params] using hs.rxKnownListed
    indexCounts := by simpa only [he.reqIndex, he.log] using hs.indexCounts
    toutEnds := he.appends.toutEnds hs.toutEnds }

theorem received_runInv {rest : List Arrival} {vs : List Byte} {s : State}
    (hv : vs.length ≤ s.params.rxBufSize.toNat) (hs : RunInv s) : RunInv (received rest vs s) := by
  obtain ⟨hk, hl⟩ := hs.rxKnownListed
  refine { hs with rxCanonical := Memory.writes_wf _ _ _ hs.rxCanonical, rxInRange := ?_, rxKnownListed := ?_ }
  · intro c hc
    rcases Memory.mem_writes _ _ _ hc with ⟨-, hlt⟩ | hc
    · exact lt_of_lt_of_le (by simpa using hlt) hv
    · exact hs.rxInRange c hc
  · refine ⟨max_le hk hv, fun i hlt => ?_⟩
    show ((s.rxbuf.writes 0 vs).read i).isSome = true
    rw [Memory.read_writes]
    split
    next hwritten => simpa using hwritten
    next hother => exact hl i ((lt_max_iff.mp hlt).resolve_right (by omega))

theorem Runs.runInv {i : Instr} {s u : State} (h : Runs s i u) (hs : RunInv s) : RunInv u := by
  have ha := h.appends
  cases h with
  | unchanged => exact hs
  | rejectSeq => exact { hs with }
  | initConfig b cfg hi => exact initialised_runInv hi ha hs
  | spi hi h => exact h.runInv hi hs
  | frameTx n frame =>
    exact { hs with traceLevels := ha.traceLevels hs.traceLevels, toutEnds := ha.toutEnds hs.toutEnds }
  | frameRx m rest vs hv => exact received_runInv hv hs
  | noFrame m rest vs hv =>
    have hreceived : RunInv (received rest vs s) := received_runInv hv hs
    exact { hreceived with
      rxKnownListed := ⟨Nat.zero_le _, fun i hlt => absurd hlt (Nat.not_lt_zero i)⟩ }

/-- A response ends the request: the data port is free, and k and the log count it. -/
theorem RunInv.respondWith {s : State} (hs : RunInv s) (c : Code) (v : U32) (d : List Byte) :
    SeqInv (respondWith c v d s) :=
  { hs with
    portFree := rfl
    indexCounts := by
      have hindex : s.reqIndex = responsesSinceReset s.log := hs.indexCounts
      simp [responsesSinceReset_response, hindex] }

/-- What is outside PFC-SEQ may hold anything at reset, with no response since in the log. -/
theorem seqInv_resetWith (p : Params) (tin : List Arrival) (tout : List Byte) (miso : List Byte) (misoCount fresh : Nat)
    (inputs : List Input) (log : List LogEntry) (hlog : responsesSinceReset log = 0) :
    SeqInv { State.resetWith p with
      tin := tin, tout := tout, miso := miso, misoCount := misoCount, rxFresh := fresh, inputs := inputs, log := log } where
  csInBurst := by simp [State.resetWith]
  pinsDriven := rfl
  progHigh := rfl
  idleBeforeInit := fun _ => rfl
  portFree := rfl
  traceLevels := rfl
  rxCanonical := reset_memory_wf p
  rxInRange := fun c hc => absurd hc (List.not_mem_nil)
  rxKnownListed := ⟨Nat.zero_le _, fun i hlt => absurd hlt (Nat.not_lt_zero i)⟩
  indexCounts := hlog.symm
  toutEnds := List.nil_suffix

/-- Settles O54: the reset state is the one with nothing outside and an empty log. -/
theorem invariantHoldsAtReset : Obligations.InvariantHoldsAtReset :=
  fun p => seqInv_resetWith p [] [] [] 0 0 [] [] rfl

theorem seqInv_systemReset (tin : List Arrival) (s : State) : SeqInv (systemReset tin s) :=
  seqInv_resetWith s.params tin s.tout s.miso s.misoCount (s.rxFresh + 1) s.inputs _ (responsesSinceReset_reset _ _)

theorem accept_next {s t : State} {go : Host.Outcome State Fault Refusal} (h : accept s go = .next t) :
    go = .next t := by
  unfold accept at h
  split at h
  · exact h
  · cases h

theorem issue_seqInv {w : U64} {d : List Byte} {s t : State} (hs : SeqInv s) (h : issue w d s = .next t) :
    SeqInv t := by
  have hrun : RunInv { s with dataIn := d } := { hs with portFree := rfl }
  unfold issue at h
  split at h
  · cases accept_next h
    exact RunInv.respondWith (s := s) { hs with portFree := rfl } _ _ _
  · obtain ⟨u, c, v, dout, hr, rfl⟩ := exec_answered h
    exact (hr.runInv hrun).respondWith c v dout

theorem serve_seqInv {i : Input} {s t : State} (hs : SeqInv s) (h : serve i s = .next t) : SeqInv t := by
  cases i with
  | request w d => exact issue_seqInv hs h
  | hostSends arrivals =>
    simp only [serve] at h
    cases accept_next h
    exact { hs with }
  | systemReset tin =>
    simp only [serve] at h
    cases accept_next h
    exact seqInv_systemReset tin s
  | resetDuring w d n tin =>
    simp only [serve, cutShort] at h
    split at h
    · cases h; exact seqInv_systemReset tin _
    · cases h
    · cases h

/-- Settles O55: a request is a run that keeps the invariant but for the data port, which its response frees; a reset
establishes the invariant afresh. -/
theorem everyStepKeepsTheInvariant : Obligations.EveryStepKeepsTheInvariant := by
  intro s t hs h
  unfold step serveNext at h
  split at h
  · cases accept_next h; exact hs
  next i rest _ => exact serve_seqInv (s := { s with inputs := rest }) { hs with } h

/-! ## Pins -/

/-- Settles O60, by PINDRV: each pin's level is chosen by it. -/
theorem pinLevelsFollowTheState : Obligations.PinLevelsFollowTheState := by
  intro s
  constructor <;> intro hp <;> simp [csPinLevel, progPinLevel, clkPinLevel, mosiPinLevel, hp]

end Sys2Proof.Machine

/-! ## The receive buffer (20_memory.md R51, 10_state.md R32, 44_framer.md R206) -/

namespace Sys2Proof.Machine

/-- MemRead gives a byte exactly at the indices there are (R51). -/
theorem rxRead_isSome_iff (i : Nat) (s : State) : (rxRead i s).isSome = true ↔ i < s.params.rxBufSize.toNat := by
  unfold rxRead
  split <;> simp [*]

/-- A free value, and another one than before, at every index once RXBUF has been given up (R206). -/
theorem rxRead_rxForget {i : Nat} {s : State} (hi : i < s.params.rxBufSize.toNat) :
    rxRead i (rxForget s) = some (Config.freeRxByte (s.rxFresh + 1) i) :=
  rxRead_free (s := rxForget s) hi (Nat.zero_le i)

/-- The same after a reset (R32, R37). -/
theorem rxRead_systemReset {i : Nat} {s : State} (tin : List Arrival) (hi : i < s.params.rxBufSize.toNat) :
    rxRead i (systemReset tin s) = some (Config.freeRxByte (s.rxFresh + 1) i) :=
  rxRead_free (s := systemReset tin s) hi (Nat.zero_le i)

/-- Settles O42, from the laws of the listing and of MemRead: neither a NOFRAME nor a reset leaves a known byte. -/
theorem bufferWritesReadBack : Obligations.BufferWritesReadBack := by
  refine ⟨fun m i bytes a => ⟨?_, ?_, ?_⟩, ?_, ?_⟩
  · exact Memory.read_writes m i bytes a
  · exact Memory.writes_wf m i bytes
  · exact fun _ hc => Memory.mem_writes m i bytes hc
  · exact fun s i => rxRead_isSome_iff i s
  · exact fun s tin i hi => ⟨rxRead_rxForget hi, rxRead_systemReset tin hi⟩

end Sys2Proof.Machine

/-! ## Every request completes (30_encoding.md R72, 60_exceptions.md R236)

The one request whose body can do other than complete is FRAME_RX: its size checks keep every index it forms inside RXBUF
(20_memory.md R51). -/

namespace Sys2Proof.Machine

theorem request_completes {cls : AdmitClass} {n : Nat} {body : State → Host.Outcome State Fault Refusal} {s : State}
    (hw : s.params.wf = true) (hb : ∃ t, body s = .next t) : ∃ t, request cls n body s = .next t := by
  unfold request
  rw [accept_wf hw]
  split
  · exact ⟨_, rfl⟩
  · exact hb

/-- A run of reads inside RXBUF gives bytes (R51). -/
theorem rxReads_inRange (count i : Nat) (s : State) (hr : i + count ≤ s.params.rxBufSize.toNat) :
    ∃ vs, rxReads count i s = some vs := by
  induction count generalizing i with
  | zero => exact ⟨[], rfl⟩
  | succ count ih =>
    obtain ⟨v, hv⟩ := Option.isSome_iff_exists.mp ((rxRead_isSome_iff i s).mpr (by omega))
    obtain ⟨vs, hvs⟩ := ih (i + 1) (by omega)
    exact ⟨v :: vs, by simp only [rxReads, hv, hvs]⟩

theorem rxFinish_completes {len : Nat} {s : State} (hpos : len ≠ 0) (hr : len ≤ s.params.rxBufSize.toNat) :
    ∃ t, rxFinish len s = .next t := by
  obtain ⟨payload, hp⟩ := rxReads_inRange (len - 1) 0 s (by omega)
  obtain ⟨k, hk⟩ := Option.isSome_iff_exists.mp ((rxRead_isSome_iff (len - 1) s).mpr (by omega))
  simp only [rxFinish, hp, hk]
  split <;> exact ⟨_, rfl⟩

theorem frameRx_completes {m : U32} {s : State} (hm : m.toNat ≤ s.params.rxBufSize.toNat) :
    ∃ t, frameRx m s = .next t := by
  have hhead := consumes_rxHead s
  unfold frameRx
  split
  · exact ⟨_, rfl⟩
  next len s1 heq =>
    rw [heq] at hhead
    obtain ⟨rest, rfl⟩ := hhead
    split
    · exact ⟨_, rfl⟩
    next hlen =>
      have hr : len.toNat ≤ s.params.rxBufSize.toNat := by omega
      obtain ⟨rest', vs, -, hbody | hbody⟩ := rxBody_cases len.toNat { s with tin := rest } hr
      · simp only [hbody]
        exact rxFinish_completes (by omega) hr
      · simp only [hbody]
        exact ⟨_, rfl⟩

/-- The size check of R203 keeps the body loop inside RXBUF. -/
theorem execFrameRx_completes (m : U32) {s : State} (hw : s.params.wf = true) : ∃ t, execFrameRx m s = .next t := by
  unfold execFrameRx
  refine request_completes hw ?_
  split
  · exact ⟨_, rfl⟩
  next hm => exact frameRx_completes (by omega)

theorem exec_completes (i : Instr) {s : State} (hw : s.params.wf = true) : ∃ t, exec i s = .next t := by
  cases i with
  | frameRx m => exact execFrameRx_completes m hw
  | _ => exact request_completes hw ⟨_, rfl⟩

theorem issue_completes (w : U64) (d : List Byte) {s : State} (hw : s.params.wf = true) :
    ∃ t, issue w d s = .next t := by
  unfold issue
  split
  · exact ⟨_, accept_wf hw _⟩
  · exact exec_completes _ hw

theorem serve_completes (i : Input) {s : State} (hw : s.params.wf = true) : ∃ t, serve i s = .next t := by
  cases i with
  | request w d => exact issue_completes w d hw
  | hostSends arrivals => exact ⟨_, accept_wf hw _⟩
  | systemReset tin => exact ⟨_, accept_wf hw _⟩
  | resetDuring w d n tin =>
    obtain ⟨t, ht⟩ := issue_completes w d hw
    exact ⟨systemReset tin (partlyDone n s t), by simp only [serve, cutShort, ht]⟩

theorem step_completes {s : State} (hw : s.params.wf = true) : ∃ t, step s = .next t := by
  unfold step serveNext
  split
  · exact ⟨_, accept_wf hw _⟩
  · exact serve_completes _ hw

/-- Settles O45: a body other than FRAME_RX's always completes, FRAME_RX stays inside RXBUF, and a step is a request, a
reset, or a move that nothing rejects. -/
theorem everyRequestCompletes : Obligations.EveryRequestCompletes :=
  ⟨fun _ i hw => exec_completes i hw, fun _ hw => step_completes hw⟩

end Sys2Proof.Machine

/-! ## The request word (30_encoding.md R70-R76) -/

namespace Sys2Proof

/-- Everything the decoder asks of a word: a row of R74 for its OP, RSVD 0 and 0 in each operand field the row does not
use (R75, R76). -/
theorem decode_eq_ok_iff {w : U64} {i : Instr} :
    decode w = .ok i ↔ ∃ r, opRow (opField w) = some r ∧ rsvdField w = 0 ∧ (r.usesA8 = false → a8Field w = 0) ∧
      (r.usesN = false → nField w = 0) ∧ r.build (a8Field w) (nField w) = i := by
  unfold decode
  cases opRow (opField w) with
  | none => simp
  | some r => dsimp only; split_ifs <;> simp_all

/-- The word built from operands that suit a row decodes to the row's request. -/
theorem decode_requestWord {op a8 : Byte} {n : U32} {r : OpRow} {i : Instr} (hr : opRow op = some r)
    (ha : r.usesA8 = false → a8 = 0) (hn : r.usesN = false → n = 0) (hi : r.build a8 n = i) :
    decode (requestWord op a8 n) = .ok i :=
  decode_eq_ok_iff.mpr ⟨r, by simpa using hr, by simp, by simpa using ha, by simpa using hn, by simpa using hi⟩

/-- Settles O1: each request's OP finds its row of the opcode map, and its operands are 0 where the row uses none. -/
theorem decodeReadsEveryEncodedRequest : Obligations.DecodeReadsEveryEncodedRequest := by
  intro i
  cases i <;> exact decode_requestWord rfl (by simp) (by simp) rfl

theorem opRow_eq_some {op : Byte} {r : OpRow} (h : opRow op = some r) : r ∈ opTable ∧ r.code = op :=
  ⟨List.mem_of_find?_eq_some h, by simpa using List.find?_some h⟩

/-- The word of a row's request has the row's OP, and its operands where the row uses them (R74). -/
theorem encode_build {r : OpRow} (hr : r ∈ opTable) {a8 : Byte} {n : U32} (ha : r.usesA8 = false → a8 = 0)
    (hn : r.usesN = false → n = 0) : encode (r.build a8 n) = requestWord r.code a8 n := by
  fin_cases hr <;> simp_all [encode]

/-- Settles O2: the fields of a legal word are those of its request's word, and RSVD is 0 in both. -/
theorem noBitOfALegalWordIsIgnored : Obligations.NoBitOfALegalWordIsIgnored := by
  intro w i h
  obtain ⟨r, hr, hrsvd, ha, hn, rfl⟩ := decode_eq_ok_iff.mp h
  obtain ⟨hmem, hcode⟩ := opRow_eq_some hr
  rw [encode_build hmem ha hn, hcode, requestWord_fields w hrsvd]

/-- Settles O3, by running the decoder on each word. -/
theorem assemblerExampleWordsDecode : Obligations.AssemblerExampleWordsDecode :=
  ⟨rfl, rfl, rfl, rfl, rfl, rfl, rfl, rfl⟩

/-- The A8 and N columns of R74. -/
theorem opTable_operands :
    ∀ r ∈ opTable, (r.usesA8 = true ↔ r.code ∈ [(0x01 : Byte), 0x52]) ∧
      (r.usesN = true ↔ r.code ∈ [(0x31 : Byte), 0x43, 0x50, 0x51, 0x52]) := by
  decide

end Sys2Proof

/-! ## Issuing a request (30_encoding.md R72, R75-R77) -/

namespace Sys2Proof.Machine

/-- A legal word runs its request with the data list on the data port (R52). -/
theorem issue_legal {w : U64} {i : Instr} (h : decode w = .ok i) (d : List Byte) (s : State) :
    issue w d s = exec i { s with dataIn := d } := by
  simp only [issue, h]

/-- A word that decodes to no request is E_ILLEGAL, whatever its data list (R232). -/
theorem issue_illegal {w : U64} {s : State} (hw : s.params.wf = true) (h : ∀ i, decode w ≠ .ok i) (d : List Byte) :
    issue w d s = .next (respond .eIllegal 0 s) := by
  unfold issue
  split
  · exact accept_wf hw _
  next i heq => exact absurd heq (h i)

/-- The ranges of R75 are the OP values without a row in R74. -/
theorem unassignedOp_iff (op : Byte) : unassignedOp op = true ↔ opRow op = none := by
  have hrow : opRow op = none ↔ ∀ r ∈ opTable, r.code.toNat ≠ op.toNat := by simp [opRow, BitVec.toNat_inj]
  simp only [hrow, unassignedOp, Bool.or_eq_true, decide_eq_true_eq, opTable, List.mem_cons, List.not_mem_nil,
    or_false, forall_eq_or_imp, forall_eq, BitVec.ofNat_eq_ofNat, BitVec.toNat_ofNat]
  omega

/-- Settles O4: the decoder finds no row for an OP in the ranges of R75. -/
theorem unassignedOpIsRejected : Obligations.UnassignedOpIsRejected := by
  refine ⟨fun s w d hw hop => issue_illegal hw (fun i hi => ?_) d, by decide +kernel⟩
  obtain ⟨r, hr, -⟩ := decode_eq_ok_iff.mp hi
  rw [(unassignedOp_iff _).mp hop] at hr
  cases hr

/-- Settles O5: each of the three cases breaks one of the decoder's conditions on the row of an assigned OP. -/
theorem reservedFieldIsRejected : Obligations.ReservedFieldIsRejected := by
  intro s w d hw _ hbroken
  refine issue_illegal hw (fun i hi => ?_) d
  obtain ⟨r, hr, hrsvd, ha, hn, -⟩ := decode_eq_ok_iff.mp hi
  obtain ⟨hmem, hcode⟩ := opRow_eq_some hr
  obtain ⟨hA8, hN⟩ := opTable_operands r hmem
  rw [hcode, ← Bool.not_eq_false] at hA8 hN
  rcases hbroken with hne | ⟨hop, hne⟩ | ⟨hop, hne⟩
  · exact hne hrsvd
  · exact hop (hA8.mp fun huse => hne (ha huse))
  · exact hop (hN.mp fun huse => hne (hn huse))

/-- A data list of the wrong length is E_ARG for every request, ahead of every other check of a legal word (R77, R232). -/
theorem exec_badLength {i : Instr} {s : State} (hw : s.params.wf = true) (hd : s.dataIn.length ≠ i.dataLength) :
    exec i s = .next (respond .eArg 0 s) := by
  obtain ⟨body, hbody⟩ := exec_eq_request i
  rw [hbody, request_badLength hw hd]

/-- Settles O6: the word is legal, and the response to the wrong data list frees the data port. -/
theorem dataLengthDisagreementIsRejected : Obligations.DataLengthDisagreementIsRejected := by
  intro s i d hw hd
  have hlength : d.length ≠ i.dataLength := by cases i <;> exact hd
  rw [issue_legal (decodeReadsEveryEncodedRequest i)]
  exact exec_badLength (s := { s with dataIn := d }) hw hlength

/-- Settles O56: the step takes the oldest move, and a legal word runs its request. -/
theorem stepRunsTheDecodedRequest : Obligations.StepRunsTheDecodedRequest := by
  intro s w d rest i hinputs hi
  simp only [step, serveNext, hinputs, serve, issue_legal hi]

/-- No run answers: the log and k are left to the response (R21, R72). -/
theorem Runs.log_reqIndex {i : Instr} {s u : State} (h : Runs s i u) : u.log = s.log ∧ u.reqIndex = s.reqIndex := by
  cases h with
  | spi _ h => exact ⟨h.effect.log, h.effect.reqIndex⟩
  | _ => exact ⟨rfl, rfl⟩

/-- Every completed request, accepted or rejected, ends in one response to a state with the old log and k (R72). -/
theorem issue_respondWith {w : U64} {d : List Byte} {s t : State} (h : issue w d s = .next t) :
    ∃ u c v dout, t = respondWith c v dout u ∧ u.log = s.log ∧ u.reqIndex = s.reqIndex := by
  unfold issue at h
  split at h
  · cases accept_next h
    exact ⟨s, .eIllegal, 0, [], rfl, rfl, rfl⟩
  · obtain ⟨u, c, v, dout, hrun, rfl⟩ := exec_answered h
    obtain ⟨hlog, hindex⟩ := hrun.log_reqIndex
    exact ⟨u, c, v, dout, rfl, hlog, hindex⟩

/-- Settles O47: the one response is the word of the state it ends in, whose FLAGS and SEQ the response itself keeps. -/
theorem everyRequestIsAnsweredOnce : Obligations.EveryRequestIsAnsweredOnce := by
  intro s t w d h
  obtain ⟨u, c, v, dout, rfl, hlog, hindex⟩ := issue_respondWith h
  refine ⟨⟨responseWord c v u, dout⟩, ?_, ?_, ⟨c, responseWord_code c v u⟩, responseWord_flags c v u, ?_,
    responseWord_zeros c v u⟩
  · rw [respondWith_log, hlog]
  · rw [respondWith_reqIndex, hindex]
  · rw [responseWord_seq, respondWith_seq]
    cases u.seq <;> rfl

end Sys2Proof.Machine

/-! ## Initialisation and register reads (40_spi_primitive.md)

An admitted request is its body (R232): what is left of each statement is the effect of its body, given by the law of the
one procedure it calls. -/

namespace Sys2Proof.Machine

theorem Admitted.wf {i : Instr} {s : State} (h : Admitted i s) : s.params.wf = true := h.1

/-- An admitted request passes the admission procedure of its class (R232). -/
theorem Admitted.request_eq {i : Instr} {s : State} (h : Admitted i s)
    (body : State → Host.Outcome State Fault Refusal) :
    request (if needsInit i then .spi else .noinit) i.dataLength body s = body s := by
  obtain ⟨hw, hd, hi⟩ := h
  refine request_admitted hw (by simpa [Instr.agrees] using hd) fun hcls => hi ?_
  by_contra hn
  simp [hn] at hcls

/-- INIT_CONFIG takes no data, and is admitted whether or not INIT is set (R101, R232). -/
theorem admitted_initConfig {s : State} (b : Byte) (hw : s.params.wf = true) (hd : s.dataIn = []) :
    Admitted (.initConfig b) s :=
  ⟨hw, by simp [Instr.agrees, Instr.dataLength, hd], nofun⟩

/-- An admitted INIT_CONFIG whose board is unknown (R101). -/
theorem exec_initConfig_unknownBoard {s : State} {b : Byte} (h : Admitted (.initConfig b) s)
    (hb : s.params.board b = none) : exec (.initConfig b) s = .next (respond .eArg 0 s) := by
  refine (h.request_eq _).trans ?_
  simp only [completes, hb]

/-- An admitted INIT_CONFIG whose board is known: INIT decides between a second call and the first (R101). -/
theorem exec_initConfig_knownBoard {s : State} {b : Byte} {cfg : DeviceConfig} (h : Admitted (.initConfig b) s)
    (hb : s.params.board b = some cfg) :
    exec (.initConfig b) s = .next (if s.init then rejectSeq s else respond .ok 0 (initialised cfg s)) := by
  refine (h.request_eq _).trans ?_
  simp only [completes, hb, initConfigWith_eq]

/-- Settles O9: with INIT = 0 the known board takes the branch that sets up the pins. -/
theorem firstInitConfigSetsUpThePins : Obligations.FirstInitConfigSetsUpThePins := by
  intro s b cfg hw hd hb hinit
  rw [exec_initConfig_knownBoard (admitted_initConfig b hw hd) hb, hinit]
  rfl

/-- Settles O10: the board is looked up before INIT is, so the unknown board is E_ARG in either case. -/
theorem initConfigRejections : Obligations.InitConfigRejections := by
  intro s b hw hd
  have h := admitted_initConfig b hw hd
  refine ⟨exec_initConfig_unknownBoard h, fun hb hinit => ?_⟩
  obtain ⟨cfg, hcfg⟩ := Option.isSome_iff_exists.mp hb
  rw [exec_initConfig_knownBoard h hcfg, if_pos hinit, rejectSeq_eq]

/-- Settles O11: Idle is in sequence, and the pulse is the four events of R102. -/
theorem progPulseGoesLowThenHigh : Obligations.ProgPulseGoesLowThenHigh := by
  intro s h hq
  refine (h.request_eq _).trans ?_
  rw [completes, inSequence_legal (by simp [hq]), progPulse_eq]
  rfl

/-- A register read in sequence, where the four value bytes lie inside the read phase (R7, R103, R104). -/
theorem readRegister_eq {c : ReadCmd} {s : State} (hq : s.seq ≠ .burstOpen) (hc : c.off.toNat + 4 ≤ c.len.toNat) :
    readRegister c s = respond .ok (registerAt s 0 c)
      { afterDraws (readLength c) s with csa := false, trace := s.trace ++ readWire s 0 c } := by
  rw [readRegister, inSequence_legal (by simpa using hq)]
  simp only [rdcmd_eq, be32_misoBytes s c hc]

/-- Settles O12: the ID read phase holds its value bytes (R7). -/
theorem readIdReturnsTheReceivedId : Obligations.ReadIdReturnsTheReceivedId := by
  intro s h hq
  refine (h.request_eq _).trans ?_
  rw [completes, readRegister_eq hq (wf_readId h.wf)]

/-- Settles O13: the status read phase holds its value bytes (R7). -/
theorem readStatusReturnsTheReceivedStatus : Obligations.ReadStatusReturnsTheReceivedStatus := by
  intro s h hq
  refine (h.request_eq _).trans ?_
  rw [completes, readRegister_eq hq (wf_readStatus h.wf)]

/-- Settles O14: the busy poll records the byte it returns, and the answer does not look at it. -/
theorem pollBusyRecordsTheBusyByte : Obligations.PollBusyRecordsTheBusyByte := by
  intro s h hq
  refine (h.request_eq _).trans ?_
  rw [completes, inSequence_legal (by simpa using hq), busyPoll_wf h.wf]
  rfl

end Sys2Proof.Machine

/-! ## Configuration mode (41_config_mode.md)

Neither request polls busy (R131, R132): in sequence, each is its one command transaction. -/

namespace Sys2Proof.Machine

/-- Settles O15: Idle is in sequence, and the body is isc_enable() of R130 alone. -/
theorem enterIscSendsIscEnable : Obligations.EnterIscSendsIscEnable := by
  intro s h hq
  refine (h.request_eq _).trans ?_
  rw [completes, inSequence_legal (by simp [hq]), iscEnable_eq]

/-- Settles O16: IscEnabled and BurstClosed are both in sequence, and the body is isc_disable() of R130 alone. -/
theorem exitIscSendsIscDisable : Obligations.ExitIscSendsIscDisable := by
  intro s h hq
  refine (h.request_eq _).trans ?_
  rw [completes, inSequence_legal (by simpa using hq), iscDisable_eq]

end Sys2Proof.Machine

/-! ## Burst write (42_burst_write.md)

In sequence, a burst request is the one procedure its rule names. While a burst is open, a request of class spi other than
BURST_DATA is rejected for sequence or begins with burst_end() of R153, whatever it does after that. -/

namespace Sys2Proof.Machine

/-- Settles O17: IscEnabled is in sequence, and the body is burst_begin() of R150 alone. -/
theorem burstBeginLeavesChipSelectAsserted : Obligations.BurstBeginLeavesChipSelectAsserted := by
  intro s h hq
  refine (h.request_eq _).trans ?_
  rw [completes, inSequence_legal (by simp [hq]), burstBegin_eq]

/-- Settles O18: in BurstOpen the body is burst_data(D) of R151 alone. -/
theorem burstDataStreamsItsBytes : Obligations.BurstDataStreamsItsBytes := by
  intro s n h hq
  refine (h.request_eq _).trans ?_
  rw [completes, if_pos hq, burstData_eq]

/-- Settles O19: outside BurstOpen the body is stray_data(D) of R152 alone. -/
theorem strayDataIsSentAndMarked : Obligations.StrayDataIsSentAndMarked := by
  intro s n h hq
  refine (h.request_eq _).trans ?_
  rw [completes, if_neg hq, strayData_eq]

/-- Settles O20: BurstOpen is in sequence, and burst_end() of R153 does not write the BCNT that is returned. -/
theorem burstEndReturnsTheBlockCount : Obligations.BurstEndReturnsTheBlockCount := by
  intro s h hq
  refine (h.request_eq _).trans ?_
  rw [completes, inSequence_legal (by simp [hq]), burstEnd_eq]
  rfl

theorem closeBurst_burstOpen {s : State} (hq : s.seq = .burstOpen) : closeBurst s = burstEnd s := if_pos hq

theorem wireTrace_burstEnd (s : State) : wireTrace (burstEnd s) = wireTrace s ++ closeWire := by
  simp [wireTrace, burstEnd_eq, closeWire, Event.onWire]

/-- What is appended to the trace is appended to the SPI and GPIO record as far as it belongs there (R33). -/
theorem Appends.wireTrace_eq {s u : State} (h : Appends s u) : ∃ rest, wireTrace u = wireTrace s ++ rest := by
  obtain ⟨es, htrace, -⟩ := h
  exact ⟨es.filter Event.onWire, by rw [wireTrace, htrace, List.filter_append, wireTrace]⟩

/-- While a burst is open, a body of class spi that runs and is not BURST_DATA's is one of three, and each goes on from
the end of the burst (R154); the others need another SEQ. -/
theorem SpiRuns.endsOpenBurst {i : Instr} {s u : State} (h : SpiRuns s i u) (hopen : s.seq = .burstOpen)
    (hdata : ∀ n, i ≠ .burstData n) :
    (i = .burstEnd ∨ i = .sessionClose ∨ i = .sessionAbort) ∧ SpiEffect (Machine.burstEnd s) u := by
  cases h with
  | burstEnd => exact ⟨.inl rfl, .refl _⟩
  | sessionClose =>
    rw [closeBurst_burstOpen hopen]
    exact ⟨.inr (.inl rfl), (spiEffect_iscDisable _).trans (spiEffect_busyPoll _)⟩
  | sessionAbort =>
    rw [closeBurst_burstOpen hopen]
    exact ⟨.inr (.inr rfl), spiEffect_iscDisable _⟩
  | burstData n => exact absurd rfl (hdata n)
  | _ => simp_all

/-- While a burst is open, a request other than BURST_DATA reaches the SPI and GPIO record only by ending the burst first:
INIT is set, so only a body of class spi can write to it. -/
theorem Runs.wireTrace_openBurst {i : Instr} {s u : State} (h : Runs s i u) (hopen : s.seq = .burstOpen)
    (hinit : s.init = true) (hdata : ∀ n, i ≠ .burstData n) :
    wireTrace u = wireTrace s ∨
      ((i = .burstEnd ∨ i = .sessionClose ∨ i = .sessionAbort) ∧
        ∃ rest, wireTrace u = wireTrace s ++ closeWire ++ rest) := by
  cases h with
  | initConfig b cfg hi => exact absurd (hi.symm.trans hinit) Bool.false_ne_true
  | spi _ hspi =>
    obtain ⟨hends, heffect⟩ := hspi.endsOpenBurst hopen hdata
    rw [← wireTrace_burstEnd]
    exact .inr ⟨hends, heffect.appends.wireTrace_eq⟩
  | frameTx n frame => exact .inl (by simp [wireTrace, transmitted])
  | _ => exact .inl rfl

/-- Settles O21: the response adds no event to what the request's run leaves on the wire. -/
theorem openBurstIsContiguous : Obligations.OpenBurstIsContiguous := by
  intro s t i hopen hinit hdata h
  obtain ⟨u, c, v, d, hrun, rfl⟩ := exec_answered h
  exact hrun.wireTrace_openBurst hopen hinit hdata

end Sys2Proof.Machine

/-! ## Sessions (43_sessions.md)

A session request is a chain of SPI procedures (R81, R82). Each procedure is stated once from a state inside a request, with
the draws and the wire sequences seen from the request's first state; a chain is then one rewrite per procedure. -/

namespace Sys2Proof.Machine

/-- What the SPI procedures write besides the trace and the draws (10_state.md R24-R31). -/
structure SpiRegs where
  seq : SeqState
  csa : Bool
  bcnt : U32
  progn : Bool
  /-- FLAGS.BUSY, the one flag they write but for stray data. -/
  busy : Bool

/-- What they find on entry to a request. -/
def spiRegs (s : State) : SpiRegs :=
  { seq := s.seq, csa := s.csa, bcnt := s.bcnt, progn := s.progn, busy := s.flags.busy }

/-- A state inside a request that began in `s`: `n` MISO draws are used up, the trace is `tr`, and the SPI procedures have
left `r`. -/
def during (s : State) (n : Nat) (tr : List Event) (r : SpiRegs) : State :=
  { afterDraws n s with
    trace := tr, seq := r.seq, csa := r.csa, bcnt := r.bcnt, progn := r.progn, flags := { s.flags with busy := r.busy } }

section
variable (s : State) (n : Nat) (tr : List Event) (r : SpiRegs)

theorem misoAt_during : misoAt (during s n tr r) = fun i => misoAt s (n + i) := misoAt_afterDraws n s

theorem afterDraws_during (m : Nat) : afterDraws m (during s n tr r) = during s (n + m) tr r := by
  simp [during, afterDraws, freeDraws_add]

theorem iscEnable_during :
    iscEnable (during s n tr r) =
      during s (n + s.params.txIscEn.length) (tr ++ cmdWire s n s.params.txIscEn)
        { r with csa := false, seq := .iscEnabled } := by
  rw [iscEnable_eq, cmdWire_of n 0 _ (misoAt_during s n tr r), afterDraws_during]
  rfl

theorem iscDisable_during :
    iscDisable (during s n tr r) =
      during s (n + s.params.txIscDis.length) (tr ++ cmdWire s n s.params.txIscDis)
        { r with csa := false, seq := .idle } := by
  rw [iscDisable_eq, cmdWire_of n 0 _ (misoAt_during s n tr r), afterDraws_during]
  rfl

theorem burstBegin_during :
    burstBegin (during s n tr r) =
      during s (n + s.params.txBurst.length) (tr ++ burstWire s n)
        { r with csa := true, seq := .burstOpen, bcnt := 0 } := by
  rw [burstBegin_eq, burstWire_of n 0 (misoAt_during s n tr r) rfl, afterDraws_during]
  rfl

theorem burstData_during (d : List Byte) :
    burstData d (during s n tr r) =
      during s (n + d.length) (tr ++ xferEvents r.csa (misoAt s) n d) { r with bcnt := r.bcnt + 1 } := by
  rw [burstData_eq, misoAt_during, xferEvents_shift, afterDraws_during]
  rfl

theorem burstEnd_during :
    burstEnd (during s n tr r) = during s n (tr ++ closeWire) { r with csa := false, seq := .burstClosed } :=
  burstEnd_eq _

theorem busyPoll_during (hw : s.params.wf = true) :
    busyPoll (during s n tr r) =
      (busyAt s n,
        during s (n + readLength s.params.readBusy) (tr ++ readWire s n s.params.readBusy)
          { r with csa := false, busy := busyThen s n }) := by
  have hm := misoAt_during s n tr r
  have hwf : (during s n tr r).params.wf = true := hw
  rw [busyPoll_wf hwf, busyAt_of n 0 hm rfl, busyThen_of n 0 hm rfl, readWire_of n 0 _ hm rfl, afterDraws_during]
  rfl

end

/-! ### SESSION_OPEN -/

/-- The busy poll a request begins with (R105). -/
theorem busyPoll_first {s : State} (hw : s.params.wf = true) :
    busyPoll s =
      (busyAt s 0,
        during s (readLength s.params.readBusy) (s.trace ++ readWire s 0 s.params.readBusy)
          { spiRegs s with csa := false, busy := busyThen s 0 }) := busyPoll_wf hw

/-- An admitted SESSION_OPEN in Idle: the poll decides whether the burst is opened (R170, R171). -/
theorem exec_sessionOpen_idle {s : State} (h : Admitted .sessionOpen s) (hq : s.seq = .idle) :
    exec .sessionOpen s = .next (if busyThen s 0 then respond .eBusy (zext32 (busyAt s 0)) (busyPoll s).2
      else respond .ok (zext32 (busyAt s 0)) (burstBegin (iscEnable (busyPoll s).2))) := by
  refine (h.request_eq _).trans ?_
  rw [completes, inSequence_legal (by simp [hq]), busyPoll_wf h.wf]
  rfl

/-- Settles O22: the poll is followed by isc_enable() and burst_begin(). -/
theorem sessionOpenEntersTheBurst : Obligations.SessionOpenEntersTheBurst := by
  intro s h hq hb
  rw [exec_sessionOpen_idle h hq, hb, busyPoll_first h.wf, iscEnable_during, burstBegin_during, hb]
  rfl

/-- Settles O23: the poll is all that runs. -/
theorem busyGuardKeepsTheSessionClosed : Obligations.BusyGuardKeepsTheSessionClosed := by
  intro s h hq hb
  rw [exec_sessionOpen_idle h hq, hb, busyPoll_first h.wf, hb]
  rfl

/-! ### SESSION_CLOSE and SESSION_ABORT -/

/-- The way out of a session: the burst is ended where one is open, and ISC is exited (R172, R173). -/
theorem iscDisable_closeBurst (s : State) :
    iscDisable (closeBurst s) =
      during s s.params.txIscDis.length
        (s.trace ++ (if s.seq = .burstOpen then closeWire else []) ++ cmdWire s 0 s.params.txIscDis)
        { spiRegs s with csa := false, seq := .idle } := by
  rw [closeBurst_eq, iscDisable_eq]
  split
  · rfl
  · rw [List.append_nil]
    rfl

/-- Settles O24: the poll follows the way out of the session, and decides the code alone. -/
theorem sessionCloseExitsThenPolls : Obligations.SessionCloseExitsThenPolls := by
  intro s h hq
  refine (h.request_eq _).trans ?_
  rw [completes, inSequence_legal (by simpa using hq), iscDisable_closeBurst, busyPoll_during _ _ _ _ h.wf]
  rfl

/-- Settles O25: outside Idle the body is the way out of the session. -/
theorem sessionAbortEndsTheSession : Obligations.SessionAbortEndsTheSession := by
  intro s h
  refine (h.request_eq _).trans ?_
  simp only [completes, sessionAbort_cases]
  rw [iscDisable_closeBurst]
  rfl

/-! ### PROGRAM_DEVICE -/

/-- The state after the opening half of PROGRAM_DEVICE: the pulse and the ID read (R174). -/
def idReadDone (s : State) : State :=
  during s (readLength s.params.readId) (s.trace ++ pulseWire ++ readWire s 0 s.params.readId)
    { spiRegs s with csa := false, progn := true }

theorem rdcmd_readId_progPulse (s : State) :
    rdcmd s.params.readId (progPulse s) = (misoBytes (misoAt s) 1 s.params.readId.len.toNat, idReadDone s) := by
  rw [rdcmd_eq, progPulse_eq]
  rfl

/-- An admitted PROGRAM_DEVICE in Idle: the ID read decides whether there is a poll, and the poll whether there is a burst
(R174, R175). -/
theorem exec_programDevice_idle {s : State} {n : U32} (h : Admitted (.programDevice n) s) (hq : s.seq = .idle) :
    exec (.programDevice n) s = .next
      (if registerAt s 0 s.params.readId ∈ s.params.supportedIds then
        if busyThen s (readLength s.params.readId) then
          respond .eBusy (zext32 (busyPoll (idReadDone s)).1) (busyPoll (idReadDone s)).2
        else programBurst s.dataIn (busyPoll (idReadDone s)).2
      else respond .eId (registerAt s 0 s.params.readId) (idReadDone s)) := by
  refine (h.request_eq _).trans ?_
  rw [completes, inSequence_legal (by simp [hq]), rdcmd_readId_progPulse]
  simp only [be32_misoBytes s _ (wf_readId h.wf), List.contains_iff_mem, idReadDone, busyPoll_during _ _ _ _ h.wf]
  rfl

/-- Everything PROGRAM_DEVICE does once both checks have passed, its response included (R174). -/
theorem programBurst_during (d : List Byte) (s : State) (n : Nat) (tr : List Event) (r : SpiRegs)
    (hw : s.params.wf = true) :
    let k1 := n + s.params.txIscEn.length
    let k2 := k1 + s.params.txBurst.length
    let k3 := k2 + d.length
    let k4 := k3 + s.params.txIscDis.length
    programBurst d (during s n tr r) =
      respond (if busyThen s k4 then .eBusy else .ok) (zext32 (busyAt s k4))
        (during s (k4 + readLength s.params.readBusy)
          (tr ++ cmdWire s n s.params.txIscEn ++ burstWire s k1 ++ xferEvents true (misoAt s) k2 d ++ closeWire
            ++ cmdWire s k3 s.params.txIscDis ++ readWire s k4 s.params.readBusy)
          { r with csa := false, seq := .idle, bcnt := 1, busy := busyThen s k4 }) := by
  rw [programBurst, iscEnable_during, burstBegin_during, burstData_during, burstEnd_during, iscDisable_during,
    busyPoll_during _ _ _ _ hw]
  rfl

/-- Settles O26: both checks pass, and what follows them is one chain of procedures up to the final poll. -/
theorem programDeviceRunsTheFullSequence : Obligations.ProgramDeviceRunsTheFullSequence := by
  intro s n h hq hid hb
  rw [exec_programDevice_idle h hq, if_pos hid, hb, if_neg Bool.false_ne_true, idReadDone, busyPoll_during _ _ _ _ h.wf]
  exact congrArg Host.Outcome.next (programBurst_during _ _ _ _ _ h.wf)

/-- Settles O27: the ID check fails ahead of the poll, so nothing runs after the ID read. -/
theorem programDeviceRefusesAnUnknownId : Obligations.ProgramDeviceRefusesAnUnknownId := by
  intro s n h hq hid
  rw [exec_programDevice_idle h hq, if_neg hid]
  rfl

/-- Settles O28: the ID check passes and the busy check fails, so nothing runs after the poll. -/
theorem programDeviceStopsWhenBusy : Obligations.ProgramDeviceStopsWhenBusy := by
  intro s n h hq hid hb
  rw [exec_programDevice_idle h hq, if_pos hid, hb, idReadDone, busyPoll_during _ _ _ _ h.wf, hb]
  rfl

end Sys2Proof.Machine

/-! ## A streamed session (43_sessions.md R176, 30_encoding.md R80)

The macro STREAM is a SESSION_OPEN, one BURST_DATA a block and a SESSION_CLOSE. `Streaming` is what holds between two of
these requests. -/

namespace Sys2Proof.Machine

/-- A request of the controller runs with its data list on the data port (R52). -/
theorem serve_request (i : Instr) (d : List Byte) (s : State) :
    serve (.request (encode i) d) s = exec i { s with dataIn := d } :=
  issue_legal (decodeReadsEveryEncodedRequest i) d s

theorem issueAll_append (as bs : List Input) (s : State) :
    issueAll (as ++ bs) s = andThen (issueAll as s) (issueAll bs) := by
  induction as generalizing s with
  | nil => rfl
  | cons a as ih =>
    simp only [List.cons_append, issueAll]
    cases serve a s with
    | next t => exact ih t
    | _ => rfl

theorem issueAll_singleton (i : Input) (s : State) : issueAll [i] s = serve i s := by
  simp only [issueAll]
  cases serve i s <;> rfl

theorem lastIsOk_respond (v : U32) (s : State) : lastIsOk (respond .ok v s) = true := by
  simp [lastIsOk, lastHasCode, lastResponse]

/-- `t` is inside a streamed session that began in `s` (R176): the burst is open, `n` MISO draws are used up, the trace is
`tr`, and `count` blocks have followed the SESSION_OPEN. -/
structure Streaming (s : State) (n : Nat) (tr : List Event) (count : Nat) (t : State) : Prop where
  params : t.params = s.params
  init : t.init = true
  burstOpen : t.seq = .burstOpen
  csAsserted : t.csa = true
  draws : misoAt t = fun i => misoAt s (n + i)
  trace : t.trace = tr
  bcnt : t.bcnt = BitVec.ofNat 32 count
  reqIndex : t.reqIndex = s.reqIndex + 1 + count

/-- SESSION_OPEN in Idle with a not-busy poll starts the session (R170). -/
theorem streaming_open {s : State} (hw : s.params.wf = true) (hi : s.init = true) (hq : s.seq = .idle)
    (hb : busyThen s 0 = false) :
    let k1 := readLength s.params.readBusy
    let k2 := k1 + s.params.txIscEn.length
    ∃ t, serve (line .sessionOpen) s = .next t ∧ lastIsOk t = true ∧
      Streaming s (k2 + s.params.txBurst.length)
        (s.trace ++ readWire s 0 s.params.readBusy ++ cmdWire s k1 s.params.txIscEn ++ burstWire s k2) 0 t := by
  have hopen := sessionOpenEntersTheBurst { s with dataIn := [] } ⟨hw, rfl, fun _ => hi⟩ hq hb
  refine ⟨_, (serve_request _ _ s).trans hopen, lastIsOk_respond _ _, ?_⟩
  exact ⟨rfl, hi, rfl, rfl, misoAt_afterDraws _ s, rfl, rfl, rfl⟩

section
variable {s t : State} {n count : Nat} {tr : List Event} (h : Streaming s n tr count t) (hw : s.params.wf = true)
include h hw

/-- One more block that fits the N field (R80, R151). -/
theorem Streaming.block {b : List Byte} (hb : b.length < 2 ^ 32) :
    ∃ u, serve (dataLine .burstData b) t = .next u ∧
      Streaming s (n + b.length) (tr ++ xferEvents true (misoAt s) n b) (count + 1) u := by
  have hlen : (BitVec.ofNat 32 b.length).toNat = b.length := by simpa using hb
  have hadmitted : Admitted (.burstData (BitVec.ofNat 32 b.length)) { t with dataIn := b } :=
    ⟨h.params ▸ hw, by simp [Instr.agrees, Instr.dataLength, hlen], fun _ => h.init⟩
  refine ⟨_, (serve_request _ _ t).trans (burstDataStreamsItsBytes _ _ hadmitted h.burstOpen), ?_⟩
  refine ⟨h.params, h.init, h.burstOpen, h.csAsserted, ?_, ?_, ?_, ?_⟩
  · exact (misoAt_afterDraws b.length t).trans (by simp only [h.draws, Nat.add_assoc])
  · show t.trace ++ xferEvents t.csa (misoAt t) 0 b = _
    rw [h.trace, h.csAsserted, h.draws, xferEvents_shift, Nat.add_zero]
  · show t.bcnt + 1 = _
    rw [h.bcnt, BitVec.ofNat_add]
    rfl
  · exact congrArg (· + 1) h.reqIndex

/-- SESSION_CLOSE ends the session (R172). -/
theorem Streaming.close :
    ∃ u, serve (line .sessionClose) t = .next u ∧ u.seq = .idle ∧ u.bcnt = BitVec.ofNat 32 count ∧
      u.reqIndex = s.reqIndex + count + 2 ∧
      u.trace = tr ++ closeWire ++ cmdWire s n s.params.txIscDis
        ++ readWire s (n + s.params.txIscDis.length) s.params.readBusy := by
  have hadmitted : Admitted .sessionClose { t with dataIn := [] } := ⟨h.params ▸ hw, rfl, fun _ => h.init⟩
  have hclose := sessionCloseExitsThenPolls _ hadmitted (by simp [h.burstOpen])
  refine ⟨_, (serve_request _ _ t).trans hclose, rfl, h.bcnt, ?_, ?_⟩
  · show t.reqIndex + 1 = _
    rw [h.reqIndex]
    omega
  · show t.trace ++ (if t.seq = .burstOpen then closeWire else []) ++ cmdWire t 0 t.params.txIscDis
      ++ readWire t t.params.txIscDis.length t.params.readBusy = _
    rw [if_pos h.burstOpen, h.trace, cmdWire_of n 0 _ h.draws, readWire_of n _ _ h.draws h.params, h.params,
      Nat.add_zero]

end

/-- All the blocks, one after the other, are one run of transfers (R176). -/
theorem Streaming.blocks {s t : State} {n count : Nat} {tr : List Event} {blocks : List (List Byte)}
    (h : Streaming s n tr count t) (hw : s.params.wf = true) (hb : ∀ b ∈ blocks, b.length < 2 ^ 32) :
    ∃ u, issueAll (blocks.map (dataLine .burstData)) t = .next u ∧
      Streaming s (n + blocks.flatten.length) (tr ++ xferEvents true (misoAt s) n blocks.flatten)
        (count + blocks.length) u := by
  induction blocks generalizing t n tr count with
  | nil => exact ⟨t, rfl, by simpa [xferEvents] using h⟩
  | cons b bs ih =>
    rw [List.forall_mem_cons] at hb
    obtain ⟨v, hv, hblock⟩ := h.block hw hb.1
    obtain ⟨u, hu, hblocks⟩ := ih hblock hb.2
    refine ⟨u, by simpa only [List.map_cons, issueAll, hv] using hu, ?_⟩
    simpa [xferEvents_append, Nat.add_assoc, Nat.add_comm 1] using hblocks

/-- Settles O29: SESSION_OPEN starts the session, the blocks keep it open, and SESSION_CLOSE ends it. -/
theorem streamedSessionIsOneBurst : Obligations.StreamedSessionIsOneBurst := by
  intro s blocks hw hi hq hb hlen k1 k2 k3 k4 k5
  obtain ⟨t, hopen, hok, ht⟩ := streaming_open hw hi hq hb
  obtain ⟨u, hblocks, hu⟩ := ht.blocks hw hlen
  obtain ⟨v, hclose, hseq, hbcnt, hindex, htrace⟩ := hu.close hw
  rw [Nat.zero_add] at hbcnt hindex
  refine ⟨v, ?_, hseq, hbcnt, hindex, htrace⟩
  rw [stream, thenIfOk, hopen, andThen_next, if_pos hok, issueAll_append, hblocks, andThen_next, issueAll_singleton,
    hclose]

end Sys2Proof.Machine

/-! ## The checksum (00_scope.md R9, 44_framer.md R200, R201) -/

namespace Sys2Proof.Machine

theorem sum8_toNat (seed : Byte) (p : List Byte) :
    (sum8 seed p).toNat = (seed.toNat + (p.map BitVec.toNat).sum) % 256 := by
  induction p generalizing seed with
  | nil => exact (Nat.mod_eq_of_lt seed.isLt).symm
  | cons b p ih =>
    have hcons : sum8 seed (b :: p) = sum8 (seed + b) p := rfl
    rw [hcons, ih, BitVec.toNat_add, Nat.mod_add_mod, List.map_cons, List.sum_cons, Nat.add_assoc]

/-- A sum does not see the order of its bytes. -/
theorem sum8_perm (seed : Byte) {a b : List Byte} (h : a.Perm b) : sum8 seed a = sum8 seed b := by
  apply BitVec.eq_of_toNat_eq
  rw [sum8_toNat, sum8_toNat, (h.map BitVec.toNat).sum_eq]

/-- Two payloads that differ in one byte at most have the same checksum only if they are the same (R208). -/
theorem cksum_change_iff (before after : List Byte) (a b : Byte) :
    cksum (before ++ [a] ++ after) = cksum (before ++ [b] ++ after) ↔ a = b := by
  refine ⟨fun h => ?_, fun h => by rw [h]⟩
  have hsum := congrArg BitVec.toNat h
  simp only [cksum, sum8_toNat, List.map_append, List.sum_append, List.map_cons, List.map_nil, List.sum_cons,
    List.sum_nil] at hsum
  have ha := a.isLt
  have hb := b.isLt
  exact BitVec.eq_of_toNat_eq (by omega)

/-- Settles O34: the running checksum is a fold, and as a number it is a sum. -/
theorem checksumRunsBlockByBlock : Obligations.ChecksumRunsBlockByBlock :=
  ⟨sum8_toNat, fun _ _ => List.foldl_append, fun seed _ _ h => sum8_perm seed h, rfl⟩

/-- Settles O33: CKSUM is of class noinit, and its VALUE is the running checksum. -/
theorem cksumReturnsTheByteSum : Obligations.CksumReturnsTheByteSum := by
  intro s seed n h
  refine ⟨zext32 (sum8 seed s.dataIn), ?_, h.request_eq _⟩
  rw [zext32, BitVec.toNat_setWidth_of_le (by decide), sum8_toNat]

end Sys2Proof.Machine

/-! ## FRAME_TX (44_framer.md R202) -/

namespace Sys2Proof.Machine

theorem Admitted.dataLength {i : Instr} {s : State} (h : Admitted i s) : s.dataIn.length = i.dataLength := by
  obtain ⟨-, hd, -⟩ := h
  simpa [Instr.agrees] using hd

/-- The bytes of a frame with the two bytes of its length field as numbers, low byte first (R55, R83). -/
theorem frameBytes_eq (magic : Byte) {payload : List Byte} (h : payload.length ≤ 65534) :
    frameBytes magic payload =
      [magic, BitVec.ofNat 8 ((payload.length + 1) % 256), BitVec.ofNat 8 ((payload.length + 1) / 256)]
        ++ payload ++ [cksum payload] := by
  have hlen : (BitVec.ofNat 16 (payload.length + 1)).toNat = payload.length + 1 := by
    rw [BitVec.toNat_ofNat]
    omega
  have hlo : (BitVec.ofNat 16 (payload.length + 1)).extractLsb' 0 8 = BitVec.ofNat 8 ((payload.length + 1) % 256) := by
    rw [BitVec.extractLsb', hlen, Nat.shiftRight_zero]
    exact BitVec.eq_of_toNat_eq (by simp)
  have hhi : (BitVec.ofNat 16 (payload.length + 1)).extractLsb' 8 8 = BitVec.ofNat 8 ((payload.length + 1) / 256) := by
    rw [BitVec.extractLsb', hlen, Nat.shiftRight_eq_div_pow]
  simp only [frameBytes, hlo, hhi]

/-- FRAME_TX of a payload that fits the length field: the pseudocode's writes are the bytes of one frame (R83, R202). -/
theorem frameTx_eq {n : U32} {s : State} (hd : s.dataIn.length = n.toNat) (hn : n.toNat ≤ 65534) :
    frameTx n s = respond .ok (BitVec.ofNat 32 ((cksum s.dataIn).toNat * 65536 + n.toNat))
      (transmitted (frameBytes s.params.frameMagic s.dataIn) s) := by
  have hlen : (n.setWidth 16 + 1 : U16) = BitVec.ofNat 16 (s.dataIn.length + 1) := by
    rw [hd, BitVec.ofNat_add, BitVec.ofNat_toNat]
    rfl
  have hvalue : (n.setWidth 16 + 1 - 1 : U16) = BitVec.ofNat 16 n.toNat := by
    rw [BitVec.ofNat_toNat, BitVec.add_sub_cancel]
  rw [← frameValue_ofNat _ _ (by omega), ← hvalue, transmitted, ← twrites_eq, frameBytes, ← hlen, twrites_append,
    twrites_append]
  rfl

/-- An admitted FRAME_TX: the length of the payload decides (R202). -/
theorem exec_frameTx {s : State} {n : U32} (h : Admitted (.frameTx n) s) :
    exec (.frameTx n) s = .next (if 65534 < n.toNat then respond .eArg 0 s else frameTx n s) :=
  h.request_eq _

/-- An admitted FRAME_TX of a payload that fits the length field sends one frame (R202). -/
theorem exec_frameTx_frame {s : State} {n : U32} (h : Admitted (.frameTx n) s) (hn : n.toNat ≤ 65534) :
    exec (.frameTx n) s = .next (respond .ok (BitVec.ofNat 32 ((cksum s.dataIn).toNat * 65536 + n.toNat))
      (transmitted (frameBytes s.params.frameMagic s.dataIn) s)) := by
  rw [exec_frameTx h, if_neg (by omega), frameTx_eq h.dataLength hn]

/-- Settles O35: the frame of R83 has its length field in two bytes. -/
theorem frameTxEmitsOneFrame : Obligations.FrameTxEmitsOneFrame := by
  intro s n h hn frame
  have hd : s.dataIn.length = n.toNat := h.dataLength
  have hframe : frameBytes s.params.frameMagic s.dataIn = frame := by rw [frameBytes_eq _ (by omega), hd]
  rw [exec_frameTx_frame h hn, hframe, transmitted]

/-- Settles O36: the check comes before the first write. -/
theorem frameTxRejectsALongPayload : Obligations.FrameTxRejectsALongPayload := by
  intro s n h hn
  rw [exec_frameTx h, if_pos hn]

end Sys2Proof.Machine

/-! ## FRAME_RX (44_framer.md R203-R206)

TIN decides everything: which read of the head stops FRAME_RX, whether the body is complete, and whether its last byte is
the checksum. -/

namespace Sys2Proof.Machine

/-- An admitted FRAME_RX: its size check, and then the reads (R203). -/
theorem exec_frameRx {s : State} {m : U32} (h : Admitted (.frameRx m) s) :
    exec (.frameRx m) s =
      if s.params.rxBufSize.toNat < m.toNat then .next (respond .eArg 0 s) else frameRx m s := by
  unfold exec execFrameRx
  exact h.request_eq _

/-- Settles O41: the check comes before the first read. -/
theorem frameRxRejectsAnOversizedBuffer : Obligations.FrameRxRejectsAnOversizedBuffer := by
  intro s m h hm
  rw [exec_frameRx h, if_pos hm]

/-! ### The head -/

theorem tread_byte {s : State} {b : Byte} {rest : List Arrival} (h : s.tin = .byte b :: rest) (tc : Timeout) :
    tread tc s = (some b, { s with tin := rest }) := by
  simp only [tread, h]

theorem tread_timesOut {s : State} {rest : List Arrival} (h : TimesOut s.tin rest) (tc : Timeout) :
    tread tc s = (none, { s with tin := rest }) := by
  rcases h with ⟨hnil, rfl⟩ | hlate
  · simp only [tread, hnil]
    rw [← hnil]
  · simp only [tread, hlate]

theorem rxLength_noLow {s : State} {rest : List Arrival} (h : TimesOut s.tin rest) :
    rxLength s = (none, { s with tin := rest }) := by
  simp only [rxLength, tread_timesOut h]

theorem rxLength_noHigh {s : State} {lo : Byte} {tail rest : List Arrival} (h : s.tin = .byte lo :: tail)
    (hto : TimesOut tail rest) : rxLength s = (none, { s with tin := rest }) := by
  have hhi := tread_timesOut (s := { s with tin := tail }) hto .len
  simp only [rxLength, tread_byte h, hhi]

theorem rxHead_timesOut {s : State} {rest : List Arrival} (h : TimesOut s.tin rest) :
    rxHead s = (none, { s with tin := rest }) := by
  simp only [rxHead, tread_timesOut h]

theorem rxHead_notMagic {s : State} {m : Byte} {rest : List Arrival} (h : s.tin = .byte m :: rest)
    (hm : m ≠ s.params.frameMagic) : rxHead s = (none, { s with tin := rest }) := by
  simp only [rxHead, tread_byte h, if_neg hm]

theorem rxHead_magic {s : State} {tin : List Arrival} (h : s.tin = .byte s.params.frameMagic :: tin) :
    rxHead s = rxLength { s with tin := tin } := by
  simp only [rxHead, tread_byte h, if_true]

/-- Without a length, FRAME_RX answers NOFRAME at once (R203). -/
theorem frameRx_noLength {s t : State} {m : U32} (h : rxHead s = (none, t)) : frameRx m s = .next (noFrame t) := by
  simp only [frameRx, h]

/-- So it does with a length of 0 or above maxSize (R203). -/
theorem frameRx_badLength {s t : State} {m : U32} {len : U16} (h : rxHead s = (some len, t))
    (hlen : len.toNat = 0 ∨ m.toNat < len.toNat) : frameRx m s = .next (noFrame t) := by
  simp only [frameRx, h, if_pos hlen]

/-- Settles O39: four of the five streams give no length, and the fifth gives a bad one. -/
theorem frameRxDropsABadHead : Obligations.FrameRxDropsABadHead := by
  intro s maxSize m lo hi tail rest h hm htin
  rw [exec_frameRx h, if_neg (by omega)]
  rcases htin with ⟨rfl, hto⟩ | ⟨hmagic, ht⟩ | ⟨ht, hto⟩ | ⟨ht, hto⟩ | ⟨hlen, ht⟩
  · exact frameRx_noLength (rxHead_timesOut hto)
  · exact frameRx_noLength (rxHead_notMagic ht hmagic)
  · exact frameRx_noLength ((rxHead_magic ht).trans (rxLength_noLow hto))
  · exact frameRx_noLength ((rxHead_magic ht).trans (rxLength_noHigh rfl hto))
  · exact frameRx_badLength (rxHead_whole s lo hi rest ht) (by rwa [le16_toNat])

/-! ### The body -/

/-- The body loop from index 0 when every byte arrives in time (R203). -/
theorem rxBody_received {s : State} {vs : List Byte} {rest : List Arrival} (ht : s.tin = inTime vs ++ rest)
    (hr : vs.length ≤ s.params.rxBufSize.toNat) : rxBody vs.length 0 s = .complete (received rest vs s) := by
  simpa [received] using rxBody_complete vs 0 s rest ht (by omega) (Nat.zero_le _)

/-- The body loop from index 0 when a read times out (R203, R205). -/
theorem rxBody_cutOff {s : State} {count : Nat} {vs : List Byte} {tail rest : List Arrival}
    (ht : s.tin = inTime vs ++ tail) (hto : TimesOut tail rest) (hc : vs.length < count)
    (hr : count ≤ s.params.rxBufSize.toNat) : rxBody count 0 s = .timedOut (received rest vs s) := by
  simpa [received] using rxBody_timedOut vs count 0 s tail rest ht hto hc (by omega) (Nat.zero_le _)

/-- The head of a frame, ahead of its body. -/
theorem rxHead_frame {s : State} {lo hi : Byte} {body : List Byte} {tail : List Arrival}
    (ht : s.tin = inTime ([s.params.frameMagic, lo, hi] ++ body) ++ tail) :
    rxHead s = (some (le16 lo hi), { s with tin := inTime body ++ tail }) :=
  rxHead_whole s lo hi _ (by simp [ht, inTime])

/-- A timeout inside the body is NOFRAME, with the bytes so far in RXBUF (R203, R205, R206). -/
theorem frameRx_shortBody {s : State} {m : U32} {lo hi : Byte} {body : List Byte} {tail rest : List Arrival}
    (hr : m.toNat ≤ s.params.rxBufSize.toNat) (hlt : body.length < lo.toNat + 256 * hi.toNat)
    (hm : lo.toNat + 256 * hi.toNat ≤ m.toNat)
    (ht : s.tin = inTime ([s.params.frameMagic, lo, hi] ++ body) ++ tail) (hto : TimesOut tail rest) :
    frameRx m s = .next (noFrame (received rest body s)) := by
  have hbody := rxBody_cutOff (s := { s with tin := inTime body ++ tail }) rfl hto hlt (hm.trans hr)
  simp only [frameRx, rxHead_frame ht, le16_toNat, hbody]
  rw [if_neg (by omega)]
  rfl

/-- When every byte of the body arrives in time, the checksum is compared (R203). -/
theorem frameRx_wholeBody {s : State} {m : U32} {lo hi : Byte} {body : List Byte} {rest : List Arrival}
    (hr : m.toNat ≤ s.params.rxBufSize.toNat) (hlen : lo.toNat + 256 * hi.toNat = body.length) (hpos : 0 < body.length)
    (hm : body.length ≤ m.toNat) (ht : s.tin = inTime ([s.params.frameMagic, lo, hi] ++ body) ++ rest) :
    frameRx m s = rxFinish body.length (received rest body s) := by
  have hbody := rxBody_received (s := { s with tin := inTime body ++ rest }) rfl (hm.trans hr)
  simp only [frameRx, rxHead_frame ht, le16_toNat, hlen, hbody]
  rw [if_neg (by omega)]
  rfl

/-- Settles O40: the short body is the one way the loop ends before its last byte. -/
theorem frameRxDropsAShortBody : Obligations.FrameRxDropsAShortBody := by
  intro s m lo hi body tail rest h hr hlt hm ht hto
  rw [exec_frameRx h, if_neg (by omega), frameRx_shortBody hr hlt hm ht hto]
  rfl

/-! ### The comparison -/

theorem received_read (s : State) (rest : List Arrival) (vs : List Byte) (i : Nat) :
    (received rest vs s).rxbuf.read i = if i < vs.length then vs[i]? else s.rxbuf.read i := by
  simp [received, Memory.read_writes]

/-- What RXBUF reads as once a body is in it (R206). -/
theorem rxRead_received {s : State} {rest : List Arrival} {vs : List Byte}
    (hv : vs.length ≤ s.params.rxBufSize.toNat) (i : Nat) :
    rxRead i (received rest vs s) = if i < vs.length then vs[i]? else rxRead i s := by
  have hread := received_read s rest vs i
  split
  next hi =>
    rw [if_pos hi, List.getElem?_eq_getElem hi] at hread
    rw [List.getElem?_eq_getElem hi]
    exact rxRead_known (Nat.lt_of_lt_of_le hi hv) (lt_max_of_lt_right hi) hread
  next hi =>
    rw [if_neg hi] at hread
    have hknown : i < (received rest vs s).rxKnown ↔ i < s.rxKnown := by simp [received, hi]
    simp only [rxRead, rxByte, hread, hknown]
    rfl

/-- The payload and the byte behind it are read back from RXBUF, and that byte decides (R203). -/
theorem rxFinish_received {s : State} {rest : List Arrival} {payload : List Byte} {k : Byte}
    (hr : payload.length + 1 ≤ s.params.rxBufSize.toNat) :
    rxFinish (payload.length + 1) (received rest (payload ++ [k]) s) = .next
      (if cksum payload = k then
        respondWith .ok (frameValue k (BitVec.ofNat 16 payload.length)) payload (received rest (payload ++ [k]) s)
      else noFrame (received rest (payload ++ [k]) s)) := by
  have hpayload : rxReads payload.length 0 (received rest (payload ++ [k]) s) = some payload := by
    refine rxReads_eq payload 0 _ (by rw [Nat.zero_add]; exact Nat.le_of_succ_le hr) (by simp [received])
      fun j hj => ?_
    rw [received_read, Nat.zero_add, if_pos (by rw [List.length_append]; omega), List.getElem?_append_left hj]
  have hk : rxRead payload.length (received rest (payload ++ [k]) s) = some k := by
    rw [rxRead_received (by simpa using hr), if_pos (by simp), List.getElem?_concat_length]
  simp only [rxFinish, Nat.add_sub_cancel, hpayload, hk]
  split <;> rfl

section
variable {s : State} {m : U32} {lo hi k : Byte} {payload : List Byte} {rest : List Arrival}
  (h : Admitted (.frameRx m) s) (hr : m.toNat ≤ s.params.rxBufSize.toNat)
  (hlen : lo.toNat + 256 * hi.toNat = payload.length + 1) (hm : payload.length + 1 ≤ m.toNat)
  (ht : s.tin = inTime ([s.params.frameMagic, lo, hi] ++ payload ++ [k]) ++ rest)
include h hr hlen hm ht

/-- FRAME_RX of a whole frame: the checksum decides between the payload and NOFRAME, and either way exactly the frame's
bytes are consumed and its body is in RXBUF (R203, R205, R206). -/
theorem exec_frameRx_frame :
    exec (.frameRx m) s = .next
      (if cksum payload = k then
        respondWith .ok (BitVec.ofNat 32 (k.toNat * 65536 + payload.length)) payload (received rest (payload ++ [k]) s)
      else noFrame (received rest (payload ++ [k]) s)) := by
  have hbody : (payload ++ [k]).length = payload.length + 1 := by simp
  rw [List.append_assoc] at ht
  rw [exec_frameRx h, if_neg (by omega), frameRx_wholeBody hr (by omega) (by omega) (by omega) ht, hbody,
    rxFinish_received (by omega), frameValue_ofNat _ _ (by omega)]

/-- A whole frame with a wrong checksum is dropped (R203, R205). -/
theorem exec_frameRx_badChecksum (hk : k ≠ cksum payload) :
    exec (.frameRx m) s = .next (noFrame (received rest (payload ++ [k]) s)) := by
  rw [exec_frameRx_frame h hr hlen hm ht, if_neg hk.symm]

end

/-- Settles O37: the checksum is the one compared with, and RXBUF reads as the body leaves it. -/
theorem frameRxReturnsThePayload : Obligations.FrameRxReturnsThePayload := by
  intro s m lo hi payload rest h hr hlen hm ht t
  have hbody : (payload ++ [cksum payload]).length = payload.length + 1 := by simp
  have hanswer : t = respondWith .ok (BitVec.ofNat 32 ((cksum payload).toNat * 65536 + payload.length)) payload
      (received rest (payload ++ [cksum payload]) s) := by
    rw [received, hbody]
  refine ⟨?_, fun i => ?_⟩
  · rw [exec_frameRx_frame h hr hlen hm ht, if_pos rfl, hanswer]
  · rw [hanswer, ← hbody]
    exact rxRead_received (s := s) (rest := rest) (by omega) i

/-- Settles O38: the last byte is not the checksum it is compared with. -/
theorem frameRxDropsABadChecksum : Obligations.FrameRxDropsABadChecksum := by
  intro s m lo hi k payload rest h hr hlen hm hk ht
  exact exec_frameRx_badChecksum h hr hlen hm ht hk

/-- Settles O44: one changed payload byte changes the checksum, and a changed checksum byte is not the checksum. -/
theorem oneChangedByteIsDetected : Obligations.OneChangedByteIsDetected := by
  constructor
  · intro s m lo hi a b k before after rest h hr hlen hm hchange ht
    have hlength : (before ++ [b] ++ after).length + 1 = before.length + after.length + 2 := by
      simp only [List.length_append, List.length_singleton]
      omega
    have hk : k ≠ cksum (before ++ [b] ++ after) := by
      rcases hchange with ⟨hab, rfl⟩ | ⟨rfl, hk⟩
      · exact fun heq => hab ((cksum_change_iff before after a b).mp heq)
      · exact hk
    exact exec_frameRx_badChecksum h hr (by omega) (by omega) ht hk
  · intro s m k rest h hr hm hk ht
    exact exec_frameRx_badChecksum (payload := []) h hr rfl hm ht hk

/-! ### A frame sent is a frame received -/

/-- Settles O43: what FRAME_TX appends to TOUT is a whole frame with the right length and checksum. -/
theorem framesRoundTrip : Obligations.FramesRoundTrip := by
  intro s t u n m rest hsent h hn hparams hport hm hr htin
  have hd : s.dataIn.length = n.toNat := h.dataLength
  have hu : Admitted (.frameRx m) u :=
    ⟨hparams ▸ h.wf, by simp [Instr.agrees, Instr.dataLength, hport], nofun⟩
  have hframe : t.tout.drop s.tout.length = frameBytes u.params.frameMagic s.dataIn := by
    rw [exec_frameTx_frame h hn] at hsent
    cases hsent
    rw [hparams]
    exact List.drop_left
  rw [hframe, frameBytes_eq _ (by omega)] at htin
  refine ⟨_, _, (exec_frameRx_frame hu hr ?_ (by omega) htin).trans (congrArg _ (if_pos rfl)), rfl, rfl, rfl,
    responseWord_code _ _ _⟩
  simp only [BitVec.toNat_ofNat]
  omega

end Sys2Proof.Machine

/-! ## Rejections (60_exceptions.md R232-R234)

A completed request has three gates: the admission procedure of R232, the sequence check of R233, and the value checks of
its own body. A rejection at any of them is `rejected`. -/

namespace Sys2Proof.Machine

/-- What a request rejected with the code `c` leaves: SEQERR on E_SEQ, and the response (R233, R234). -/
def rejected (c : Code) (s : State) : State :=
  respond c 0 { s with flags := if c = .eSeq then { s.flags with seqErr := true } else s.flags }

/-- Settles O7: INIT is the one check that fails. -/
theorem spiRequestBeforeInitIsRejected : Obligations.SpiRequestBeforeInitIsRejected := by
  intro s i hw hn hd hi
  obtain ⟨body, hbody⟩ := exec_eq_request i
  rw [hbody, if_pos hn, request_noInit hw (by simpa [Instr.agrees] using hd) hi]

/-- A request is in sequence everywhere, or its body is guarded by the states its rule allows (R233). -/
theorem exec_sequence (i : Instr) :
    (∀ q, legalIn i q = true) ∨ ∃ f, ∀ s, Admitted i s → exec i s = .next (inSequence (legalIn i) f s) := by
  cases i with
  | initConfig _ | burstData _ | sessionAbort | frameTx _ | frameRx _ | cksum _ _ => exact .inl fun _ => rfl
  | _ => exact .inr ⟨_, fun _ h => h.request_eq _⟩

/-- Settles O8: a request that some state excludes has a guarded body, and the guard fails. -/
theorem outOfSequenceRequestIsRejected : Obligations.OutOfSequenceRequestIsRejected := by
  intro s i h hq
  rcases exec_sequence i with hall | ⟨f, hf⟩
  · rw [hall] at hq
    cases hq
  · rw [hf s h, inSequence_illegal hq, rejectSeq_eq]

/-- A completed request was rejected by the admission procedure or admitted (R232). -/
theorem exec_admission {i : Instr} {s t : State} (h : exec i s = .next t) :
    t = rejected .eArg s ∨ (needsInit i = true ∧ t = rejected .eNoInit s) ∨ Admitted i s := by
  obtain ⟨body, hbody⟩ := exec_eq_request i
  rw [hbody] at h
  obtain ⟨hw, ⟨-, ht⟩ | ⟨hspi, -, -, ht⟩ | ⟨hd, hi, -⟩⟩ := request_next h
  · exact .inl ht
  · exact .inr (.inl ⟨by simpa using hspi, ht⟩)
  · exact .inr (.inr ⟨hw, by simpa [Instr.agrees] using hd, fun hn => hi (if_pos hn)⟩)

/-! ### The codes of each request -/

/-- The request ends in a response with a code of its row of R231, and with no other effect if that is a rejection's. -/
def AnsweredByRow (i : Instr) (s t : State) : Prop :=
  ∃ c ∈ codesOf i, ∃ v d u, t = respondWith c v d u ∧ (c.isRejection = true → t = rejected c s)

section
variable {i : Instr} {s : State}

theorem answeredByRow_rejected {c : Code} (hc : c ∈ codesOf i) : AnsweredByRow i s (rejected c s) :=
  ⟨c, hc, 0, [], _, rfl, fun _ => rfl⟩

theorem answeredByRow_completed {c : Code} (hc : c ∈ codesOf i) (hn : c.isRejection = false) (v : U32) (d : List Byte)
    (u : State) : AnsweredByRow i s (respondWith c v d u) :=
  ⟨c, hc, v, d, u, rfl, by simp [hn]⟩

theorem answeredByRow_ok (v : U32) (d : List Byte) (u : State) : AnsweredByRow i s (respondWith .ok v d u) :=
  answeredByRow_completed (by cases i <;> simp [codesOf]) rfl v d u

theorem answeredByRow_eBusy (hc : .eBusy ∈ codesOf i) (v : U32) (u : State) :
    AnsweredByRow i s (respond .eBusy v u) :=
  answeredByRow_completed hc rfl v [] u

/-- A final busy byte is answered OK or E_BUSY (R172, R174). -/
theorem answeredByRow_respondBusy (hc : .eBusy ∈ codesOf i) (b : Byte) (u : State) :
    AnsweredByRow i s (respondBusy b u) := by
  unfold respondBusy
  split
  · exact answeredByRow_eBusy hc _ _
  · exact answeredByRow_ok _ _ _

/-- An admitted request whose body always completes. -/
theorem Admitted.answeredByRow {f : State → State} {t : State} (h : Admitted i s)
    (ht : request (if needsInit i then .spi else .noinit) i.dataLength (completes f) s = .next t)
    (hf : AnsweredByRow i s (f s)) : AnsweredByRow i s t := by
  rw [h.request_eq] at ht
  cases ht
  exact hf

/-- An admitted request in sequence. -/
theorem Admitted.answeredByRow_inSequence {legal : SeqState → Bool} {f : State → State} {t : State}
    (h : Admitted i s)
    (ht : request (if needsInit i then .spi else .noinit) i.dataLength (completes (inSequence legal f)) s = .next t)
    (hq : legal s.seq = true) (hf : AnsweredByRow i s (f s)) : AnsweredByRow i s t :=
  h.answeredByRow ht (by rwa [inSequence_legal hq])

end

/-- FRAME_RX past its size check is answered OK or NOFRAME (R203, R204). -/
theorem frameRx_cases {m : U32} {s t : State} (h : frameRx m s = .next t) :
    (∃ v d u, t = respondWith .ok v d u) ∨ ∃ u, t = noFrame u := by
  unfold frameRx at h
  split at h
  · cases h; exact .inr ⟨_, rfl⟩
  · split at h
    · cases h; exact .inr ⟨_, rfl⟩
    · split at h
      · cases h; exact .inr ⟨_, rfl⟩
      · cases h
      · rcases rxFinish_cases h with ⟨v, d, ht⟩ | ht
        · exact .inl ⟨v, d, _, ht⟩
        · exact .inr ⟨_, ht⟩

theorem answeredByRow_initConfig {b : Byte} {s t : State} (h : Admitted (.initConfig b) s)
    (ht : exec (.initConfig b) s = .next t) : AnsweredByRow (.initConfig b) s t := by
  cases hb : s.params.board b with
  | none =>
    cases (exec_initConfig_unknownBoard h hb).symm.trans ht
    exact answeredByRow_rejected (c := .eArg) (by simp [codesOf])
  | some cfg =>
    cases (exec_initConfig_knownBoard h hb).symm.trans ht
    split
    · exact answeredByRow_rejected (c := .eSeq) (by simp [codesOf])
    · exact answeredByRow_ok _ _ _

theorem answeredByRow_programDevice {n : U32} {s t : State} (h : Admitted (.programDevice n) s) (hq : s.seq = .idle)
    (ht : exec (.programDevice n) s = .next t) : AnsweredByRow (.programDevice n) s t := by
  have hbusy : .eBusy ∈ codesOf (.programDevice n) := by simp [codesOf]
  cases (exec_programDevice_idle h hq).symm.trans ht
  split
  · split
    · exact answeredByRow_eBusy hbusy _ _
    · exact answeredByRow_respondBusy hbusy _ _
  · exact answeredByRow_completed (c := .eId) (by simp [codesOf]) rfl _ _ _

theorem answeredByRow_frameRx {m : U32} {s t : State} (h : Admitted (.frameRx m) s)
    (ht : exec (.frameRx m) s = .next t) : AnsweredByRow (.frameRx m) s t := by
  rw [exec_frameRx h] at ht
  split at ht
  · cases ht
    exact answeredByRow_rejected (c := .eArg) (by simp [codesOf])
  · rcases frameRx_cases ht with ⟨v, d, u, rfl⟩ | ⟨u, rfl⟩
    · exact answeredByRow_ok _ _ _
    · exact answeredByRow_completed (c := .noFrame) (by simp [codesOf]) rfl _ _ _

/-- Past admission and sequence, the body alone decides the code. -/
theorem Admitted.answeredByRow_legal {i : Instr} {s t : State} (h : Admitted i s) (hq : legalIn i s.seq = true)
    (ht : exec i s = .next t) : AnsweredByRow i s t := by
  cases i with
  | initConfig b => exact answeredByRow_initConfig h ht
  | sessionOpen =>
    cases (exec_sessionOpen_idle h (by simpa [legalIn] using hq)).symm.trans ht
    split
    · exact answeredByRow_eBusy (by simp [codesOf]) _ _
    · exact answeredByRow_ok _ _ _
  | sessionClose => exact h.answeredByRow_inSequence ht hq (answeredByRow_respondBusy (by simp [codesOf]) _ _)
  | programDevice n => exact answeredByRow_programDevice h (by simpa [legalIn] using hq) ht
  | frameTx n =>
    cases (exec_frameTx h).symm.trans ht
    split
    · exact answeredByRow_rejected (c := .eArg) (by simp [codesOf])
    · exact answeredByRow_ok _ _ _
  | frameRx m => exact answeredByRow_frameRx h ht
  | burstData _ | sessionAbort | cksum _ _ => exact h.answeredByRow ht (answeredByRow_ok _ _ _)
  | _ => exact h.answeredByRow_inSequence ht hq (answeredByRow_ok _ _ _)

/-- A request is rejected by admission, rejected for its sequence, or answered by its body (R231-R233). -/
theorem exec_answeredByRow {i : Instr} {s t : State} (h : exec i s = .next t) : AnsweredByRow i s t := by
  rcases exec_admission h with rfl | ⟨hn, rfl⟩ | hadmitted
  · exact answeredByRow_rejected (by cases i <;> simp [codesOf])
  · exact answeredByRow_rejected (by cases i <;> simp_all [codesOf, needsInit])
  · cases hq : legalIn i s.seq with
    | true => exact hadmitted.answeredByRow_legal hq h
    | false =>
      cases (outOfSequenceRequestIsRejected s i hadmitted hq).symm.trans h
      exact answeredByRow_rejected (c := .eSeq) (by cases i <;> simp_all [codesOf, legalIn])

/-- The code of the one response that a completed request puts in the log is the one it was answered with. -/
theorem answeredWith_iff {w : U64} {dIn : List Byte} {s u : State} {c c' : Code} {v : U32} {d : List Byte}
    (h : issue w dIn s = .next (respondWith c v d u)) : AnsweredWith c' s (respondWith c v d u) ↔ c' = c := by
  have hlog : u.log = s.log := by
    obtain ⟨r, hr, -⟩ := everyRequestIsAnsweredOnce _ _ _ _ h
    exact (List.append_inj' hr rfl).1
  constructor
  · rintro ⟨r, hr, hcode⟩
    rw [respondWith_log, hlog] at hr
    cases List.append_cancel_left hr
    exact Code.toByte_injective (hcode.symm.trans (responseWord_code c v u))
  · rintro rfl
    exact ⟨⟨responseWord c' v u, d⟩, by rw [respondWith_log, hlog], responseWord_code c' v u⟩

/-- Settles O48: the request is the one its own word issues, and the log shows the code that ended it. -/
theorem codesAreThoseOfTheTable : Obligations.CodesAreThoseOfTheTable := by
  intro s t i h
  obtain ⟨c, hc, v, d, u, rfl, -⟩ := exec_answeredByRow h
  have hissue := (issue_legal (decodeReadsEveryEncodedRequest i) s.dataIn s).trans h
  exact ⟨c, hc, (answeredWith_iff hissue).mpr rfl⟩

/-- An issued request that is answered with a rejection's code was rejected, by the decoder or later (R234). -/
theorem issue_rejected {w : U64} {d : List Byte} {s t : State} {c : Code} (h : issue w d s = .next t)
    (hc : AnsweredWith c s t) (hr : c.isRejection = true) : t = rejected c { s with dataIn := d } := by
  have hissue := h
  unfold issue at h
  split at h
  · cases accept_next h
    rw [(answeredWith_iff hissue).mp hc]
    rfl
  · obtain ⟨c', -, v, dout, u, rfl, hrejected⟩ := exec_answeredByRow h
    obtain rfl := (answeredWith_iff hissue).mp hc
    exact hrejected hr

/-- Settles O49: the response of `rejected` carries the FLAGS and SEQ it leaves. -/
theorem rejectionsHaveNoEffect : Obligations.RejectionsHaveNoEffect := by
  intro s t w d c h hc hr
  obtain rfl := issue_rejected h hc hr
  rfl

end Sys2Proof.Machine

/-! ## The controller's commands (60_exceptions.md R243, R244, 30_encoding.md R80) -/

namespace Sys2Proof.Machine

/-- Settles O30, by the two tests of R244 on the descriptor. -/
theorem autoProgramNeedsForceOrTheFlag : Obligations.AutoProgramNeedsForceOrTheFlag := by
  intro s valid startup force blocks
  refine ⟨rfl, ?_, ?_⟩
  · simp [autoProgram, flashReady]
  · rintro rfl (rfl | rfl) <;> simp [autoProgram, flashReady]

/-! ### QueryDevice -/

/-- What SESSION_ABORT leaves of an open burst before its response: the burst is ended and ISC is exited (R173). -/
def burstAborted (s : State) : State :=
  during s s.params.txIscDis.length (s.trace ++ closeWire ++ cmdWire s 0 s.params.txIscDis)
    { spiRegs s with csa := false, seq := .idle }

theorem misoAt_burstAborted (s : State) :
    misoAt (burstAborted s) = fun i => misoAt s (s.params.txIscDis.length + i) := misoAt_during _ _ _ _

theorem serve_sessionAbort_burstOpen {s : State} (hw : s.params.wf = true) (hi : s.init = true)
    (hq : s.seq = .burstOpen) : serve (line .sessionAbort) s = .next (respond .ok 0 (burstAborted s)) := by
  have hadmitted : Admitted .sessionAbort { s with dataIn := [] } := ⟨hw, rfl, fun _ => hi⟩
  rw [line, serve_request, sessionAbortEndsTheSession _ hadmitted, hq]
  rfl

/-- READ_ID of the controller, outside BurstOpen (R103). -/
theorem serve_readId {s : State} (hw : s.params.wf = true) (hi : s.init = true) (hq : s.seq ≠ .burstOpen) :
    serve (line .readId) s = .next (respond .ok (registerAt s 0 s.params.readId)
      { afterDraws (readLength s.params.readId) s with
        csa := false, trace := s.trace ++ readWire s 0 s.params.readId }) :=
  (serve_request .readId [] s).trans
    (readIdReturnsTheReceivedId { s with dataIn := [] } ⟨hw, rfl, fun _ => hi⟩ hq)

theorem lastValue_respond (c : Code) (v : U32) (s : State) : lastValue (respond c v s) = v := by
  simp [lastValue, lastResponse]

/-- Settles O31: SESSION_ABORT leaves Idle, where READ_ID is in sequence and its VALUE is the ID. -/
theorem queryDeviceEndsTheSessionFirst : Obligations.QueryDeviceEndsTheSessionFirst := by
  intro s hw hi hq
  have hm : misoAt (respond .ok 0 (burstAborted s)) = fun i => misoAt s (s.params.txIscDis.length + i) :=
    misoAt_burstAborted s
  have hread := serve_readId (s := respond .ok 0 (burstAborted s)) hw hi (by simp [burstAborted, during])
  rw [registerAt_of _ 0 _ hm, readWire_of _ 0 _ hm rfl] at hread
  have hperform : Command.queryDevice.perform s = serve (line .readId) (respond .ok 0 (burstAborted s)) := by
    rw [Command.perform, issueAll, serve_sessionAbort_burstOpen hw hi hq]
    exact issueAll_singleton _ _
  refine ⟨_, hperform.trans hread, rfl, rfl, rfl, rfl,
    recognised s.params (registerAt s s.params.txIscDis.length s.params.readId), ?_, List.contains_iff_mem⟩
  rw [Command.conclusion, if_pos (lastIsOk_respond _ _), lastValue_respond]
  rfl

/-! ### ProgramBlock -/

/-- CKCHECK compares with the byte that CKSUM returned (R80, R201). -/
theorem checksumIs_respond (expect b : Byte) (s : State) :
    checksumIs expect (respond .ok (zext32 b) s) = (b == expect) := by
  have hvalue : (responseWord .ok (zext32 b) s).extractLsb' 32 8 = b := by
    rw [responseWord, extract_append_high _ _ _ _ (by decide), extract_append_high _ _ _ _ (by decide),
      extract_append_high _ _ _ _ (by decide), extract_append_high _ _ _ _ (by decide)]
    exact BitVec.eq_of_toNat_eq (by simpa [zext32] using b.isLt)
  simp [checksumIs, lastResponse, hvalue]

/-- CKSUM of a block that fits the N field leaves nothing but its response (R201). -/
theorem serve_cksum {s : State} {block : List Byte} (hw : s.params.wf = true) (hb : block.length < 2 ^ 32) :
    serve (dataLine (.cksum 0) block) s = .next (respond .ok (zext32 (cksum block)) s) := by
  have hlen : (BitVec.ofNat 32 block.length).toNat = block.length := by simpa using hb
  have hadmitted : Admitted (.cksum 0 (BitVec.ofNat 32 block.length)) { s with dataIn := block } :=
    ⟨hw, by simp [Instr.agrees, Instr.dataLength, hlen], nofun⟩
  exact (serve_request _ _ s).trans (hadmitted.request_eq _)

theorem programBlock_perform {s : State} {block : List Byte} (declared : Byte) (hw : s.params.wf = true)
    (hb : block.length < 2 ^ 32) :
    (Command.programBlock declared block).perform s =
      if cksum block = declared then serve (dataLine .burstData block) (respond .ok (zext32 (cksum block)) s)
      else .next (respond .ok (zext32 (cksum block)) s) := by
  simp only [Command.perform, serve_cksum hw hb, andThen_next, checksumIs_respond, beq_iff_eq]

/-- Settles O32: CKSUM is issued in either case, and its VALUE decides whether BURST_DATA is. -/
theorem aBlockWithABadChecksumIsNotWritten : Obligations.ABlockWithABadChecksumIsNotWritten := by
  intro s declared block hw hb
  rw [programBlock_perform declared hw hb]
  constructor
  · intro hbad
    exact ⟨_, if_neg (Ne.symm hbad), rfl, rfl, rfl, rfl⟩
  · intro hgood
    rw [if_pos hgood.symm, issueAll, serve_cksum hw hb]
    exact (issueAll_singleton _ _).symm

end Sys2Proof.Machine

/-! ## Idle steps and the host's bytes (60_exceptions.md R247, R248) -/

namespace Sys2Proof.Machine

/-- Settles O57: both are moves that only an ill-formed instantiation refuses. -/
theorem idleAndHostSteps : Obligations.IdleAndHostSteps := by
  intro s arrivals rest hw
  constructor
  · intro hinputs
    simp only [step, serveNext, hinputs, accept_wf hw]
  · intro hinputs
    simp only [step, serveNext, hinputs, serve]
    exact accept_wf hw _

end Sys2Proof.Machine

/-! ## Resets (70_reset_and_hazards.md R260, R261) -/

namespace Sys2Proof.Machine

/-- A pending system reset is the next step (R260). -/
theorem step_systemReset {s : State} {tin : List Arrival} {rest : List Input} (hw : s.params.wf = true)
    (hinputs : s.inputs = .systemReset tin :: rest) :
    step s = .next (systemReset tin { s with inputs := rest }) := by
  simp only [step, serveNext, hinputs, serve]
  exact accept_wf hw _

/-- FLAGS is 0 after a reset, its INIT bit with INIT (R30, R37). -/
theorem flagsWord_systemReset (tin : List Arrival) (s : State) : flagsWord (systemReset tin s) = 0x00 := by
  simp [flagsWord, systemReset, State.resetWith]

/-- Settles O58: the reset writes every field but TOUT and what is outside PFC-SEQ, and leaves no byte of RXBUF known. -/
theorem systemResetLeavesTheResetState : Obligations.SystemResetLeavesTheResetState := by
  intro s tin rest hw hinputs
  exact ⟨_, step_systemReset hw hinputs, rfl, rfl, rfl, rfl, rfl, rfl, flagsWord_systemReset _ _, rfl, rfl, rfl, rfl, rfl,
    rfl, rfl, fun _ hi => rxRead_systemReset tin hi⟩

/-- The first `n` of the events that a request from `s` to `u` puts in the trace. -/
def firstEvents (n : Nat) (s u : State) : List Event := (u.trace.drop s.trace.length).take n

theorem firstEvents_length (n : Nat) (s u : State) :
    (firstEvents n s u).length = min n (u.trace.length - s.trace.length) := by
  simp [firstEvents]

/-- Where the trace only grows, its first new events prolong the old trace. -/
theorem append_firstEvents_prefix (n : Nat) {s u : State} (h : s.trace <+: u.trace) :
    (s.trace ++ firstEvents n s u) <+: u.trace := by
  obtain ⟨es, hes⟩ := h
  rw [firstEvents, ← hes, List.drop_left, List.prefix_append_right_inj]
  exact List.take_prefix n es

/-- A request that is cut short leaves its first events, their bytes in TOUT and their draws, and nothing else (R261). -/
theorem partlyDone_eq (n : Nat) (s u : State) :
    partlyDone n s u =
      { afterDraws (xferCount (firstEvents n s u)) s with
        trace := s.trace ++ firstEvents n s u
        tout := s.tout ++ txBytes (firstEvents n s u) } := by
  rw [← takeMisos_eq]
  rfl

/-- A request (W, D), legal or not, only appends to the trace (R33). -/
theorem issue_trace_prefix {w : U64} {d : List Byte} {s u : State} (h : issue w d s = .next u) :
    s.trace <+: u.trace := by
  unfold issue at h
  split at h
  · cases accept_next h
    exact List.prefix_rfl
  next i _ =>
    obtain ⟨⟨es, hes⟩, -⟩ := theTraceOnlyGrows _ u i h
    exact ⟨es, hes.symm⟩

/-- A pending reset inside a request resets what the request has done so far (R261). -/
theorem step_resetDuring {s u : State} {w : U64} {d : List Byte} {n : Nat} {tin : List Arrival} {rest : List Input}
    (hinputs : s.inputs = .resetDuring w d n tin :: rest) (h : issue w d { s with inputs := rest } = .next u) :
    step s = .next (systemReset tin (partlyDone n { s with inputs := rest } u)) := by
  simp only [step, serveNext, hinputs, serve, cutShort, h]

/-- Settles O59: the events kept are the first of those that the whole request would append to the trace. -/
theorem resetInsideARequestKeepsWhatHappened : Obligations.ResetInsideARequestKeepsWhatHappened := by
  intro s u w d n tin rest hinputs h
  have hstep := step_resetDuring hinputs h
  have htrace := issue_trace_prefix h
  rw [partlyDone_eq] at hstep
  exact ⟨_, _, hstep, append_firstEvents_prefix n htrace, firstEvents_length n _ u, rfl,
    rfl, rfl, rfl, rfl, rfl, rfl, rfl, rfl, rfl, flagsWord_systemReset _ _, rfl, rfl, rfl⟩

end Sys2Proof.Machine
